-- ==== Sys2Proof/Word.lean ====
section
/-! DEFINITION. The two word types of the CORE (R10): bytes of the CPU bus and 16-bit CPU addresses. -/

namespace Sys2Proof

/-- One byte: A, X, Y, SP and every bus datum (R10). -/
abbrev Byte := BitVec 8

/-- One 16-bit value: PC and every CPU address (R10). -/
abbrev Word := BitVec 16

end Sys2Proof
end

