-- ==== Sys2Proof/Syntax.lean ====
section
/-! DEFINITION. The instructions as data: one constructor per row of spec/opcode_table.json, the rows with operand bytes
first and then the rows without, each in the order of the opcode byte (Lean compiles at most 244 constructors with fields,
and only before the others). An operand is a field: `imm` the immediate byte (R146), `zp` the zero-page byte (R147 to R149,
R153, R154), `addr` the 16-bit little-endian operand (R150 to R152, R155), `off` the signed branch offset (R156). Where
several opcode bytes share a mnemonic and a mode, the byte is part of the name. -/

namespace Sys2Proof

/-- The 256 instructions of R157. -/
inductive Instr where
  /-- 0x01 ORA (zp,X) (R238) -/
  | oraIndX (zp : Byte)
  /-- 0x03 SLO (zp,X) (R310) -/
  | sloIndX (zp : Byte)
  /-- 0x04 NOP zp (R323) -/
  | nopZp04 (zp : Byte)
  /-- 0x05 ORA zp (R238) -/
  | oraZp (zp : Byte)
  /-- 0x06 ASL zp (R250) -/
  | aslZp (zp : Byte)
  /-- 0x07 SLO zp (R310) -/
  | sloZp (zp : Byte)
  /-- 0x09 ORA #imm (R238) -/
  | oraImm (imm : Byte)
  /-- 0x0B ANC #imm (R318) -/
  | ancImm0B (imm : Byte)
  /-- 0x0C NOP abs (R323) -/
  | nopAbs (addr : Word)
  /-- 0x0D ORA abs (R238) -/
  | oraAbs (addr : Word)
  /-- 0x0E ASL abs (R250) -/
  | aslAbs (addr : Word)
  /-- 0x0F SLO abs (R310) -/
  | sloAbs (addr : Word)
  /-- 0x10 BPL rel (R271) -/
  | bpl (off : Int)
  /-- 0x11 ORA (zp),Y (R238) -/
  | oraIndY (zp : Byte)
  /-- 0x13 SLO (zp),Y (R310) -/
  | sloIndY (zp : Byte)
  /-- 0x14 NOP zp,X (R323) -/
  | nopZpX14 (zp : Byte)
  /-- 0x15 ORA zp,X (R238) -/
  | oraZpX (zp : Byte)
  /-- 0x16 ASL zp,X (R250) -/
  | aslZpX (zp : Byte)
  /-- 0x17 SLO zp,X (R310) -/
  | sloZpX (zp : Byte)
  /-- 0x19 ORA abs,Y (R238) -/
  | oraAbsY (addr : Word)
  /-- 0x1B SLO abs,Y (R310) -/
  | sloAbsY (addr : Word)
  /-- 0x1C NOP abs,X (R323) -/
  | nopAbsX1C (addr : Word)
  /-- 0x1D ORA abs,X (R238) -/
  | oraAbsX (addr : Word)
  /-- 0x1E ASL abs,X (R250) -/
  | aslAbsX (addr : Word)
  /-- 0x1F SLO abs,X (R310) -/
  | sloAbsX (addr : Word)
  /-- 0x20 JSR abs (R280) -/
  | jsrAbs (addr : Word)
  /-- 0x21 AND (zp,X) (R237) -/
  | andIndX (zp : Byte)
  /-- 0x23 RLA (zp,X) (R311) -/
  | rlaIndX (zp : Byte)
  /-- 0x24 BIT zp (R243) -/
  | bitZp (zp : Byte)
  /-- 0x25 AND zp (R237) -/
  | andZp (zp : Byte)
  /-- 0x26 ROL zp (R252) -/
  | rolZp (zp : Byte)
  /-- 0x27 RLA zp (R311) -/
  | rlaZp (zp : Byte)
  /-- 0x29 AND #imm (R237) -/
  | andImm (imm : Byte)
  /-- 0x2B ANC #imm (R318) -/
  | ancImm2B (imm : Byte)
  /-- 0x2C BIT abs (R243) -/
  | bitAbs (addr : Word)
  /-- 0x2D AND abs (R237) -/
  | andAbs (addr : Word)
  /-- 0x2E ROL abs (R252) -/
  | rolAbs (addr : Word)
  /-- 0x2F RLA abs (R311) -/
  | rlaAbs (addr : Word)
  /-- 0x30 BMI rel (R272) -/
  | bmi (off : Int)
  /-- 0x31 AND (zp),Y (R237) -/
  | andIndY (zp : Byte)
  /-- 0x33 RLA (zp),Y (R311) -/
  | rlaIndY (zp : Byte)
  /-- 0x34 NOP zp,X (R323) -/
  | nopZpX34 (zp : Byte)
  /-- 0x35 AND zp,X (R237) -/
  | andZpX (zp : Byte)
  /-- 0x36 ROL zp,X (R252) -/
  | rolZpX (zp : Byte)
  /-- 0x37 RLA zp,X (R311) -/
  | rlaZpX (zp : Byte)
  /-- 0x39 AND abs,Y (R237) -/
  | andAbsY (addr : Word)
  /-- 0x3B RLA abs,Y (R311) -/
  | rlaAbsY (addr : Word)
  /-- 0x3C NOP abs,X (R323) -/
  | nopAbsX3C (addr : Word)
  /-- 0x3D AND abs,X (R237) -/
  | andAbsX (addr : Word)
  /-- 0x3E ROL abs,X (R252) -/
  | rolAbsX (addr : Word)
  /-- 0x3F RLA abs,X (R311) -/
  | rlaAbsX (addr : Word)
  /-- 0x41 EOR (zp,X) (R239) -/
  | eorIndX (zp : Byte)
  /-- 0x43 SRE (zp,X) (R312) -/
  | sreIndX (zp : Byte)
  /-- 0x44 NOP zp (R323) -/
  | nopZp44 (zp : Byte)
  /-- 0x45 EOR zp (R239) -/
  | eorZp (zp : Byte)
  /-- 0x46 LSR zp (R251) -/
  | lsrZp (zp : Byte)
  /-- 0x47 SRE zp (R312) -/
  | sreZp (zp : Byte)
  /-- 0x49 EOR #imm (R239) -/
  | eorImm (imm : Byte)
  /-- 0x4B ALR #imm (R319) -/
  | alrImm (imm : Byte)
  /-- 0x4C JMP abs (R279) -/
  | jmpAbs (addr : Word)
  /-- 0x4D EOR abs (R239) -/
  | eorAbs (addr : Word)
  /-- 0x4E LSR abs (R251) -/
  | lsrAbs (addr : Word)
  /-- 0x4F SRE abs (R312) -/
  | sreAbs (addr : Word)
  /-- 0x50 BVC rel (R273) -/
  | bvc (off : Int)
  /-- 0x51 EOR (zp),Y (R239) -/
  | eorIndY (zp : Byte)
  /-- 0x53 SRE (zp),Y (R312) -/
  | sreIndY (zp : Byte)
  /-- 0x54 NOP zp,X (R323) -/
  | nopZpX54 (zp : Byte)
  /-- 0x55 EOR zp,X (R239) -/
  | eorZpX (zp : Byte)
  /-- 0x56 LSR zp,X (R251) -/
  | lsrZpX (zp : Byte)
  /-- 0x57 SRE zp,X (R312) -/
  | sreZpX (zp : Byte)
  /-- 0x59 EOR abs,Y (R239) -/
  | eorAbsY (addr : Word)
  /-- 0x5B SRE abs,Y (R312) -/
  | sreAbsY (addr : Word)
  /-- 0x5C NOP abs,X (R323) -/
  | nopAbsX5C (addr : Word)
  /-- 0x5D EOR abs,X (R239) -/
  | eorAbsX (addr : Word)
  /-- 0x5E LSR abs,X (R251) -/
  | lsrAbsX (addr : Word)
  /-- 0x5F SRE abs,X (R312) -/
  | sreAbsX (addr : Word)
  /-- 0x61 ADC (zp,X) (R235) -/
  | adcIndX (zp : Byte)
  /-- 0x63 RRA (zp,X) (R313) -/
  | rraIndX (zp : Byte)
  /-- 0x64 NOP zp (R323) -/
  | nopZp64 (zp : Byte)
  /-- 0x65 ADC zp (R235) -/
  | adcZp (zp : Byte)
  /-- 0x66 ROR zp (R253) -/
  | rorZp (zp : Byte)
  /-- 0x67 RRA zp (R313) -/
  | rraZp (zp : Byte)
  /-- 0x69 ADC #imm (R235) -/
  | adcImm (imm : Byte)
  /-- 0x6B ARR #imm (R320) -/
  | arrImm (imm : Byte)
  /-- 0x6C JMP (abs) (R279) -/
  | jmpInd (addr : Word)
  /-- 0x6D ADC abs (R235) -/
  | adcAbs (addr : Word)
  /-- 0x6E ROR abs (R253) -/
  | rorAbs (addr : Word)
  /-- 0x6F RRA abs (R313) -/
  | rraAbs (addr : Word)
  /-- 0x70 BVS rel (R274) -/
  | bvs (off : Int)
  /-- 0x71 ADC (zp),Y (R235) -/
  | adcIndY (zp : Byte)
  /-- 0x73 RRA (zp),Y (R313) -/
  | rraIndY (zp : Byte)
  /-- 0x74 NOP zp,X (R323) -/
  | nopZpX74 (zp : Byte)
  /-- 0x75 ADC zp,X (R235) -/
  | adcZpX (zp : Byte)
  /-- 0x76 ROR zp,X (R253) -/
  | rorZpX (zp : Byte)
  /-- 0x77 RRA zp,X (R313) -/
  | rraZpX (zp : Byte)
  /-- 0x79 ADC abs,Y (R235) -/
  | adcAbsY (addr : Word)
  /-- 0x7B RRA abs,Y (R313) -/
  | rraAbsY (addr : Word)
  /-- 0x7C NOP abs,X (R323) -/
  | nopAbsX7C (addr : Word)
  /-- 0x7D ADC abs,X (R235) -/
  | adcAbsX (addr : Word)
  /-- 0x7E ROR abs,X (R253) -/
  | rorAbsX (addr : Word)
  /-- 0x7F RRA abs,X (R313) -/
  | rraAbsX (addr : Word)
  /-- 0x80 NOP #imm (R323) -/
  | nopImm80 (imm : Byte)
  /-- 0x81 STA (zp,X) (R203) -/
  | staIndX (zp : Byte)
  /-- 0x82 NOP #imm (R323) -/
  | nopImm82 (imm : Byte)
  /-- 0x83 SAX (zp,X) (R314) -/
  | saxIndX (zp : Byte)
  /-- 0x84 STY zp (R205) -/
  | styZp (zp : Byte)
  /-- 0x85 STA zp (R203) -/
  | staZp (zp : Byte)
  /-- 0x86 STX zp (R204) -/
  | stxZp (zp : Byte)
  /-- 0x87 SAX zp (R314) -/
  | saxZp (zp : Byte)
  /-- 0x89 NOP #imm (R323) -/
  | nopImm89 (imm : Byte)
  /-- 0x8B XAA #imm (R326) -/
  | xaaImm (imm : Byte)
  /-- 0x8C STY abs (R205) -/
  | styAbs (addr : Word)
  /-- 0x8D STA abs (R203) -/
  | staAbs (addr : Word)
  /-- 0x8E STX abs (R204) -/
  | stxAbs (addr : Word)
  /-- 0x8F SAX abs (R314) -/
  | saxAbs (addr : Word)
  /-- 0x90 BCC rel (R275) -/
  | bcc (off : Int)
  /-- 0x91 STA (zp),Y (R203) -/
  | staIndY (zp : Byte)
  /-- 0x93 AHX (zp),Y (R328) -/
  | ahxIndY (zp : Byte)
  /-- 0x94 STY zp,X (R205) -/
  | styZpX (zp : Byte)
  /-- 0x95 STA zp,X (R203) -/
  | staZpX (zp : Byte)
  /-- 0x96 STX zp,Y (R204) -/
  | stxZpY (zp : Byte)
  /-- 0x97 SAX zp,Y (R314) -/
  | saxZpY (zp : Byte)
  /-- 0x99 STA abs,Y (R203) -/
  | staAbsY (addr : Word)
  /-- 0x9B TAS abs,Y (R329) -/
  | tasAbsY (addr : Word)
  /-- 0x9C SHY abs,X (R330) -/
  | shyAbsX (addr : Word)
  /-- 0x9D STA abs,X (R203) -/
  | staAbsX (addr : Word)
  /-- 0x9E SHX abs,Y (R331) -/
  | shxAbsY (addr : Word)
  /-- 0x9F AHX abs,Y (R328) -/
  | ahxAbsY (addr : Word)
  /-- 0xA0 LDY #imm (R202) -/
  | ldyImm (imm : Byte)
  /-- 0xA1 LDA (zp,X) (R200) -/
  | ldaIndX (zp : Byte)
  /-- 0xA2 LDX #imm (R201) -/
  | ldxImm (imm : Byte)
  /-- 0xA3 LAX (zp,X) (R315) -/
  | laxIndX (zp : Byte)
  /-- 0xA4 LDY zp (R202) -/
  | ldyZp (zp : Byte)
  /-- 0xA5 LDA zp (R200) -/
  | ldaZp (zp : Byte)
  /-- 0xA6 LDX zp (R201) -/
  | ldxZp (zp : Byte)
  /-- 0xA7 LAX zp (R315) -/
  | laxZp (zp : Byte)
  /-- 0xA9 LDA #imm (R200) -/
  | ldaImm (imm : Byte)
  /-- 0xAB LXA #imm (R327) -/
  | lxaImm (imm : Byte)
  /-- 0xAC LDY abs (R202) -/
  | ldyAbs (addr : Word)
  /-- 0xAD LDA abs (R200) -/
  | ldaAbs (addr : Word)
  /-- 0xAE LDX abs (R201) -/
  | ldxAbs (addr : Word)
  /-- 0xAF LAX abs (R315) -/
  | laxAbs (addr : Word)
  /-- 0xB0 BCS rel (R276) -/
  | bcs (off : Int)
  /-- 0xB1 LDA (zp),Y (R200) -/
  | ldaIndY (zp : Byte)
  /-- 0xB3 LAX (zp),Y (R315) -/
  | laxIndY (zp : Byte)
  /-- 0xB4 LDY zp,X (R202) -/
  | ldyZpX (zp : Byte)
  /-- 0xB5 LDA zp,X (R200) -/
  | ldaZpX (zp : Byte)
  /-- 0xB6 LDX zp,Y (R201) -/
  | ldxZpY (zp : Byte)
  /-- 0xB7 LAX zp,Y (R315) -/
  | laxZpY (zp : Byte)
  /-- 0xB9 LDA abs,Y (R200) -/
  | ldaAbsY (addr : Word)
  /-- 0xBB LAS abs,Y (R322) -/
  | lasAbsY (addr : Word)
  /-- 0xBC LDY abs,X (R202) -/
  | ldyAbsX (addr : Word)
  /-- 0xBD LDA abs,X (R200) -/
  | ldaAbsX (addr : Word)
  /-- 0xBE LDX abs,Y (R201) -/
  | ldxAbsY (addr : Word)
  /-- 0xBF LAX abs,Y (R315) -/
  | laxAbsY (addr : Word)
  /-- 0xC0 CPY #imm (R242) -/
  | cpyImm (imm : Byte)
  /-- 0xC1 CMP (zp,X) (R240) -/
  | cmpIndX (zp : Byte)
  /-- 0xC2 NOP #imm (R323) -/
  | nopImmC2 (imm : Byte)
  /-- 0xC3 DCP (zp,X) (R316) -/
  | dcpIndX (zp : Byte)
  /-- 0xC4 CPY zp (R242) -/
  | cpyZp (zp : Byte)
  /-- 0xC5 CMP zp (R240) -/
  | cmpZp (zp : Byte)
  /-- 0xC6 DEC zp (R245) -/
  | decZp (zp : Byte)
  /-- 0xC7 DCP zp (R316) -/
  | dcpZp (zp : Byte)
  /-- 0xC9 CMP #imm (R240) -/
  | cmpImm (imm : Byte)
  /-- 0xCB AXS #imm (R321) -/
  | axsImm (imm : Byte)
  /-- 0xCC CPY abs (R242) -/
  | cpyAbs (addr : Word)
  /-- 0xCD CMP abs (R240) -/
  | cmpAbs (addr : Word)
  /-- 0xCE DEC abs (R245) -/
  | decAbs (addr : Word)
  /-- 0xCF DCP abs (R316) -/
  | dcpAbs (addr : Word)
  /-- 0xD0 BNE rel (R277) -/
  | bne (off : Int)
  /-- 0xD1 CMP (zp),Y (R240) -/
  | cmpIndY (zp : Byte)
  /-- 0xD3 DCP (zp),Y (R316) -/
  | dcpIndY (zp : Byte)
  /-- 0xD4 NOP zp,X (R323) -/
  | nopZpXD4 (zp : Byte)
  /-- 0xD5 CMP zp,X (R240) -/
  | cmpZpX (zp : Byte)
  /-- 0xD6 DEC zp,X (R245) -/
  | decZpX (zp : Byte)
  /-- 0xD7 DCP zp,X (R316) -/
  | dcpZpX (zp : Byte)
  /-- 0xD9 CMP abs,Y (R240) -/
  | cmpAbsY (addr : Word)
  /-- 0xDB DCP abs,Y (R316) -/
  | dcpAbsY (addr : Word)
  /-- 0xDC NOP abs,X (R323) -/
  | nopAbsXDC (addr : Word)
  /-- 0xDD CMP abs,X (R240) -/
  | cmpAbsX (addr : Word)
  /-- 0xDE DEC abs,X (R245) -/
  | decAbsX (addr : Word)
  /-- 0xDF DCP abs,X (R316) -/
  | dcpAbsX (addr : Word)
  /-- 0xE0 CPX #imm (R241) -/
  | cpxImm (imm : Byte)
  /-- 0xE1 SBC (zp,X) (R236) -/
  | sbcIndX (zp : Byte)
  /-- 0xE2 NOP #imm (R323) -/
  | nopImmE2 (imm : Byte)
  /-- 0xE3 ISB (zp,X) (R317) -/
  | isbIndX (zp : Byte)
  /-- 0xE4 CPX zp (R241) -/
  | cpxZp (zp : Byte)
  /-- 0xE5 SBC zp (R236) -/
  | sbcZp (zp : Byte)
  /-- 0xE6 INC zp (R244) -/
  | incZp (zp : Byte)
  /-- 0xE7 ISB zp (R317) -/
  | isbZp (zp : Byte)
  /-- 0xE9 SBC #imm (R236) -/
  | sbcImm (imm : Byte)
  /-- 0xEB SBC #imm (R324) -/
  | sbcImmEB (imm : Byte)
  /-- 0xEC CPX abs (R241) -/
  | cpxAbs (addr : Word)
  /-- 0xED SBC abs (R236) -/
  | sbcAbs (addr : Word)
  /-- 0xEE INC abs (R244) -/
  | incAbs (addr : Word)
  /-- 0xEF ISB abs (R317) -/
  | isbAbs (addr : Word)
  /-- 0xF0 BEQ rel (R278) -/
  | beq (off : Int)
  /-- 0xF1 SBC (zp),Y (R236) -/
  | sbcIndY (zp : Byte)
  /-- 0xF3 ISB (zp),Y (R317) -/
  | isbIndY (zp : Byte)
  /-- 0xF4 NOP zp,X (R323) -/
  | nopZpXF4 (zp : Byte)
  /-- 0xF5 SBC zp,X (R236) -/
  | sbcZpX (zp : Byte)
  /-- 0xF6 INC zp,X (R244) -/
  | incZpX (zp : Byte)
  /-- 0xF7 ISB zp,X (R317) -/
  | isbZpX (zp : Byte)
  /-- 0xF9 SBC abs,Y (R236) -/
  | sbcAbsY (addr : Word)
  /-- 0xFB ISB abs,Y (R317) -/
  | isbAbsY (addr : Word)
  /-- 0xFC NOP abs,X (R323) -/
  | nopAbsXFC (addr : Word)
  /-- 0xFD SBC abs,X (R236) -/
  | sbcAbsX (addr : Word)
  /-- 0xFE INC abs,X (R244) -/
  | incAbsX (addr : Word)
  /-- 0xFF ISB abs,X (R317) -/
  | isbAbsX (addr : Word)
  /-- 0x00 BRK (R282) -/
  | brk
  /-- 0x02 JAM (R325) -/
  | jam02
  /-- 0x08 PHP (R213) -/
  | php
  /-- 0x0A ASL A (R250) -/
  | aslAcc
  /-- 0x12 JAM (R325) -/
  | jam12
  /-- 0x18 CLC (R284) -/
  | clc
  /-- 0x1A NOP (R323) -/
  | nopImp1A
  /-- 0x22 JAM (R325) -/
  | jam22
  /-- 0x28 PLP (R215) -/
  | plp
  /-- 0x2A ROL A (R252) -/
  | rolAcc
  /-- 0x32 JAM (R325) -/
  | jam32
  /-- 0x38 SEC (R285) -/
  | sec
  /-- 0x3A NOP (R323) -/
  | nopImp3A
  /-- 0x40 RTI (R283) -/
  | rti
  /-- 0x42 JAM (R325) -/
  | jam42
  /-- 0x48 PHA (R212) -/
  | pha
  /-- 0x4A LSR A (R251) -/
  | lsrAcc
  /-- 0x52 JAM (R325) -/
  | jam52
  /-- 0x58 CLI (R286) -/
  | cli
  /-- 0x5A NOP (R323) -/
  | nopImp5A
  /-- 0x60 RTS (R281) -/
  | rts
  /-- 0x62 JAM (R325) -/
  | jam62
  /-- 0x68 PLA (R214) -/
  | pla
  /-- 0x6A ROR A (R253) -/
  | rorAcc
  /-- 0x72 JAM (R325) -/
  | jam72
  /-- 0x78 SEI (R287) -/
  | sei
  /-- 0x7A NOP (R323) -/
  | nopImp7A
  /-- 0x88 DEY (R249) -/
  | dey
  /-- 0x8A TXA (R208) -/
  | txa
  /-- 0x92 JAM (R325) -/
  | jam92
  /-- 0x98 TYA (R209) -/
  | tya
  /-- 0x9A TXS (R211) -/
  | txs
  /-- 0xA8 TAY (R207) -/
  | tay
  /-- 0xAA TAX (R206) -/
  | tax
  /-- 0xB2 JAM (R325) -/
  | jamB2
  /-- 0xB8 CLV (R290) -/
  | clv
  /-- 0xBA TSX (R210) -/
  | tsx
  /-- 0xC8 INY (R247) -/
  | iny
  /-- 0xCA DEX (R248) -/
  | dex
  /-- 0xD2 JAM (R325) -/
  | jamD2
  /-- 0xD8 CLD (R288) -/
  | cld
  /-- 0xDA NOP (R323) -/
  | nopImpDA
  /-- 0xE8 INX (R246) -/
  | inx
  /-- 0xEA NOP (R291) -/
  | nop
  /-- 0xF2 JAM (R325) -/
  | jamF2
  /-- 0xF8 SED (R289) -/
  | sed
  /-- 0xFA NOP (R323) -/
  | nopImpFA
  deriving DecidableEq, Repr

end Sys2Proof
end

