-- ==== Sys2Proof/WellFormed.lean ====
section
/-! DEFINITION. Which terms of `Instr` the encoding admits. Every operand but one is a byte or a word of its full width;
the branch offset is an integer, and its encoding admits -128 to 127 (R156, R162). -/

namespace Sys2Proof

/-- The range of a branch offset (R156). -/
def offsetInRange (off : Int) : Bool := decide (-128 ≤ off) && decide (off ≤ 127)

/-- An instruction the encoding admits. -/
def Instr.wellFormed (i : Instr) : Bool :=
  match i with
  | .bpl off | .bmi off | .bvc off | .bvs off | .bcc off | .bcs off | .bne off | .beq off => offsetInRange off
  | _ => true

end Sys2Proof
end

