-- ==== Sys2Proof/Decode.lean ====
section
/-! DEFINITION. Decoding and encoding (30_encoding.md). The opcode map of R157 is a table of 256 descriptors (R49, R143), one
per opcode byte; `decode` looks the first byte up and takes the operand bytes its format asks for (R141); `encode` writes
the bytes of an instruction. The byte order of a 16-bit operand is decided here (R81). -/

namespace Sys2Proof

/-! ## Byte order -/

/-- The low byte of a word, the one at the lower address (R81). -/
def lowByte (w : Word) : Byte := w.setWidth 8

/-- The high byte of a word (R81). -/
def highByte (w : Word) : Byte := (w >>> 8).setWidth 8

/-- `{hi, lo}` (R14). -/
def wordOf (hi lo : Byte) : Word := hi ++ lo

/-! ## The descriptor table -/

/-- The 13 addressing modes (R144 to R156). -/
inductive Mode where
  | implied | accumulator | immediate | zeroPage | zeroPageX | zeroPageY | absolute | absoluteX | absoluteY
  | indexedIndirect | indirectIndexed | indirect | relative
  deriving DecidableEq, Repr

/-- The 76 mnemonics of spec/opcode_table.json. -/
inductive Mnemonic where
  | mBRK | mORA | mJAM | mSLO | mNOP | mASL | mPHP | mANC | mBPL | mCLC | mJSR | mAND | mRLA | mBIT | mROL
  | mPLP | mBMI | mSEC | mRTI | mEOR | mSRE | mLSR | mPHA | mALR | mJMP | mBVC | mCLI | mRTS | mADC | mRRA
  | mROR | mPLA | mARR | mBVS | mSEI | mSTA | mSAX | mSTY | mSTX | mDEY | mTXA | mXAA | mBCC | mAHX | mTYA
  | mTXS | mTAS | mSHY | mSHX | mLDY | mLDA | mLDX | mLAX | mTAY | mTAX | mLXA | mBCS | mCLV | mTSX | mLAS
  | mCPY | mCMP | mDCP | mDEC | mINY | mDEX | mAXS | mBNE | mCLD | mCPX | mSBC | mISB | mINC | mINX | mBEQ
  | mSED
  deriving DecidableEq, Repr

/-- Whether an opcode is one of the 151 documented ones, one of the undocumented ones, or one of the seven unstable ones
(R143, R159). -/
inductive Standing where
  | documented | undocumented | unstable
  deriving DecidableEq, Repr

/-- What follows the opcode byte (R141): nothing (F1), one byte (F2), or two bytes, low byte first (F3); and the
instruction they make. `none` is an opcode byte with no row, which R160 calls a fatal error and the map never has. -/
inductive Shape where
  | f1 (i : Instr)
  | f2 (build : Byte → Instr)
  | f3 (build : Word → Instr)
  | none

/-- A descriptor (R143): mnemonic, addressing mode, byte size, base cycles, page-cross cycles, standing, and the format. -/
structure Descriptor where
  mnemonic : Mnemonic
  mode : Mode
  size : Nat
  cycles : Nat
  pageCross : Nat
  standing : Standing
  shape : Shape

/-- Row 0 of the opcode map (R157): opcode bytes 0x00 to 0x0F. -/
def opcodeRow0 : List Descriptor :=
  [⟨.mBRK, .implied, 2, 7, 0, .documented, .f1 .brk⟩,
   ⟨.mORA, .indexedIndirect, 2, 6, 0, .documented, .f2 .oraIndX⟩,
   ⟨.mJAM, .implied, 1, 2, 0, .undocumented, .f1 .jam02⟩,
   ⟨.mSLO, .indexedIndirect, 2, 8, 0, .undocumented, .f2 .sloIndX⟩,
   ⟨.mNOP, .zeroPage, 2, 3, 0, .undocumented, .f2 .nopZp04⟩,
   ⟨.mORA, .zeroPage, 2, 3, 0, .documented, .f2 .oraZp⟩,
   ⟨.mASL, .zeroPage, 2, 5, 0, .documented, .f2 .aslZp⟩,
   ⟨.mSLO, .zeroPage, 2, 5, 0, .undocumented, .f2 .sloZp⟩,
   ⟨.mPHP, .implied, 1, 3, 0, .documented, .f1 .php⟩,
   ⟨.mORA, .immediate, 2, 2, 0, .documented, .f2 .oraImm⟩,
   ⟨.mASL, .accumulator, 1, 2, 0, .documented, .f1 .aslAcc⟩,
   ⟨.mANC, .immediate, 2, 2, 0, .undocumented, .f2 .ancImm0B⟩,
   ⟨.mNOP, .absolute, 3, 4, 0, .undocumented, .f3 .nopAbs⟩,
   ⟨.mORA, .absolute, 3, 4, 0, .documented, .f3 .oraAbs⟩,
   ⟨.mASL, .absolute, 3, 6, 0, .documented, .f3 .aslAbs⟩,
   ⟨.mSLO, .absolute, 3, 6, 0, .undocumented, .f3 .sloAbs⟩]

/-- Row 1 of the opcode map (R157): opcode bytes 0x10 to 0x1F. -/
def opcodeRow1 : List Descriptor :=
  [⟨.mBPL, .relative, 2, 2, 0, .documented, .f2 (fun b => .bpl b.toInt)⟩,
   ⟨.mORA, .indirectIndexed, 2, 5, 1, .documented, .f2 .oraIndY⟩,
   ⟨.mJAM, .implied, 1, 2, 0, .undocumented, .f1 .jam12⟩,
   ⟨.mSLO, .indirectIndexed, 2, 8, 0, .undocumented, .f2 .sloIndY⟩,
   ⟨.mNOP, .zeroPageX, 2, 4, 0, .undocumented, .f2 .nopZpX14⟩,
   ⟨.mORA, .zeroPageX, 2, 4, 0, .documented, .f2 .oraZpX⟩,
   ⟨.mASL, .zeroPageX, 2, 6, 0, .documented, .f2 .aslZpX⟩,
   ⟨.mSLO, .zeroPageX, 2, 6, 0, .undocumented, .f2 .sloZpX⟩,
   ⟨.mCLC, .implied, 1, 2, 0, .documented, .f1 .clc⟩,
   ⟨.mORA, .absoluteY, 3, 4, 1, .documented, .f3 .oraAbsY⟩,
   ⟨.mNOP, .implied, 1, 2, 0, .undocumented, .f1 .nopImp1A⟩,
   ⟨.mSLO, .absoluteY, 3, 7, 0, .undocumented, .f3 .sloAbsY⟩,
   ⟨.mNOP, .absoluteX, 3, 4, 1, .undocumented, .f3 .nopAbsX1C⟩,
   ⟨.mORA, .absoluteX, 3, 4, 1, .documented, .f3 .oraAbsX⟩,
   ⟨.mASL, .absoluteX, 3, 7, 0, .documented, .f3 .aslAbsX⟩,
   ⟨.mSLO, .absoluteX, 3, 7, 0, .undocumented, .f3 .sloAbsX⟩]

/-- Row 2 of the opcode map (R157): opcode bytes 0x20 to 0x2F. -/
def opcodeRow2 : List Descriptor :=
  [⟨.mJSR, .absolute, 3, 6, 0, .documented, .f3 .jsrAbs⟩,
   ⟨.mAND, .indexedIndirect, 2, 6, 0, .documented, .f2 .andIndX⟩,
   ⟨.mJAM, .implied, 1, 2, 0, .undocumented, .f1 .jam22⟩,
   ⟨.mRLA, .indexedIndirect, 2, 8, 0, .undocumented, .f2 .rlaIndX⟩,
   ⟨.mBIT, .zeroPage, 2, 3, 0, .documented, .f2 .bitZp⟩,
   ⟨.mAND, .zeroPage, 2, 3, 0, .documented, .f2 .andZp⟩,
   ⟨.mROL, .zeroPage, 2, 5, 0, .documented, .f2 .rolZp⟩,
   ⟨.mRLA, .zeroPage, 2, 5, 0, .undocumented, .f2 .rlaZp⟩,
   ⟨.mPLP, .implied, 1, 4, 0, .documented, .f1 .plp⟩,
   ⟨.mAND, .immediate, 2, 2, 0, .documented, .f2 .andImm⟩,
   ⟨.mROL, .accumulator, 1, 2, 0, .documented, .f1 .rolAcc⟩,
   ⟨.mANC, .immediate, 2, 2, 0, .undocumented, .f2 .ancImm2B⟩,
   ⟨.mBIT, .absolute, 3, 4, 0, .documented, .f3 .bitAbs⟩,
   ⟨.mAND, .absolute, 3, 4, 0, .documented, .f3 .andAbs⟩,
   ⟨.mROL, .absolute, 3, 6, 0, .documented, .f3 .rolAbs⟩,
   ⟨.mRLA, .absolute, 3, 6, 0, .undocumented, .f3 .rlaAbs⟩]

/-- Row 3 of the opcode map (R157): opcode bytes 0x30 to 0x3F. -/
def opcodeRow3 : List Descriptor :=
  [⟨.mBMI, .relative, 2, 2, 0, .documented, .f2 (fun b => .bmi b.toInt)⟩,
   ⟨.mAND, .indirectIndexed, 2, 5, 1, .documented, .f2 .andIndY⟩,
   ⟨.mJAM, .implied, 1, 2, 0, .undocumented, .f1 .jam32⟩,
   ⟨.mRLA, .indirectIndexed, 2, 8, 0, .undocumented, .f2 .rlaIndY⟩,
   ⟨.mNOP, .zeroPageX, 2, 4, 0, .undocumented, .f2 .nopZpX34⟩,
   ⟨.mAND, .zeroPageX, 2, 4, 0, .documented, .f2 .andZpX⟩,
   ⟨.mROL, .zeroPageX, 2, 6, 0, .documented, .f2 .rolZpX⟩,
   ⟨.mRLA, .zeroPageX, 2, 6, 0, .undocumented, .f2 .rlaZpX⟩,
   ⟨.mSEC, .implied, 1, 2, 0, .documented, .f1 .sec⟩,
   ⟨.mAND, .absoluteY, 3, 4, 1, .documented, .f3 .andAbsY⟩,
   ⟨.mNOP, .implied, 1, 2, 0, .undocumented, .f1 .nopImp3A⟩,
   ⟨.mRLA, .absoluteY, 3, 7, 0, .undocumented, .f3 .rlaAbsY⟩,
   ⟨.mNOP, .absoluteX, 3, 4, 1, .undocumented, .f3 .nopAbsX3C⟩,
   ⟨.mAND, .absoluteX, 3, 4, 1, .documented, .f3 .andAbsX⟩,
   ⟨.mROL, .absoluteX, 3, 7, 0, .documented, .f3 .rolAbsX⟩,
   ⟨.mRLA, .absoluteX, 3, 7, 0, .undocumented, .f3 .rlaAbsX⟩]

/-- Row 4 of the opcode map (R157): opcode bytes 0x40 to 0x4F. -/
def opcodeRow4 : List Descriptor :=
  [⟨.mRTI, .implied, 1, 6, 0, .documented, .f1 .rti⟩,
   ⟨.mEOR, .indexedIndirect, 2, 6, 0, .documented, .f2 .eorIndX⟩,
   ⟨.mJAM, .implied, 1, 2, 0, .undocumented, .f1 .jam42⟩,
   ⟨.mSRE, .indexedIndirect, 2, 8, 0, .undocumented, .f2 .sreIndX⟩,
   ⟨.mNOP, .zeroPage, 2, 3, 0, .undocumented, .f2 .nopZp44⟩,
   ⟨.mEOR, .zeroPage, 2, 3, 0, .documented, .f2 .eorZp⟩,
   ⟨.mLSR, .zeroPage, 2, 5, 0, .documented, .f2 .lsrZp⟩,
   ⟨.mSRE, .zeroPage, 2, 5, 0, .undocumented, .f2 .sreZp⟩,
   ⟨.mPHA, .implied, 1, 3, 0, .documented, .f1 .pha⟩,
   ⟨.mEOR, .immediate, 2, 2, 0, .documented, .f2 .eorImm⟩,
   ⟨.mLSR, .accumulator, 1, 2, 0, .documented, .f1 .lsrAcc⟩,
   ⟨.mALR, .immediate, 2, 2, 0, .undocumented, .f2 .alrImm⟩,
   ⟨.mJMP, .absolute, 3, 3, 0, .documented, .f3 .jmpAbs⟩,
   ⟨.mEOR, .absolute, 3, 4, 0, .documented, .f3 .eorAbs⟩,
   ⟨.mLSR, .absolute, 3, 6, 0, .documented, .f3 .lsrAbs⟩,
   ⟨.mSRE, .absolute, 3, 6, 0, .undocumented, .f3 .sreAbs⟩]

/-- Row 5 of the opcode map (R157): opcode bytes 0x50 to 0x5F. -/
def opcodeRow5 : List Descriptor :=
  [⟨.mBVC, .relative, 2, 2, 0, .documented, .f2 (fun b => .bvc b.toInt)⟩,
   ⟨.mEOR, .indirectIndexed, 2, 5, 1, .documented, .f2 .eorIndY⟩,
   ⟨.mJAM, .implied, 1, 2, 0, .undocumented, .f1 .jam52⟩,
   ⟨.mSRE, .indirectIndexed, 2, 8, 0, .undocumented, .f2 .sreIndY⟩,
   ⟨.mNOP, .zeroPageX, 2, 4, 0, .undocumented, .f2 .nopZpX54⟩,
   ⟨.mEOR, .zeroPageX, 2, 4, 0, .documented, .f2 .eorZpX⟩,
   ⟨.mLSR, .zeroPageX, 2, 6, 0, .documented, .f2 .lsrZpX⟩,
   ⟨.mSRE, .zeroPageX, 2, 6, 0, .undocumented, .f2 .sreZpX⟩,
   ⟨.mCLI, .implied, 1, 2, 0, .documented, .f1 .cli⟩,
   ⟨.mEOR, .absoluteY, 3, 4, 1, .documented, .f3 .eorAbsY⟩,
   ⟨.mNOP, .implied, 1, 2, 0, .undocumented, .f1 .nopImp5A⟩,
   ⟨.mSRE, .absoluteY, 3, 7, 0, .undocumented, .f3 .sreAbsY⟩,
   ⟨.mNOP, .absoluteX, 3, 4, 1, .undocumented, .f3 .nopAbsX5C⟩,
   ⟨.mEOR, .absoluteX, 3, 4, 1, .documented, .f3 .eorAbsX⟩,
   ⟨.mLSR, .absoluteX, 3, 7, 0, .documented, .f3 .lsrAbsX⟩,
   ⟨.mSRE, .absoluteX, 3, 7, 0, .undocumented, .f3 .sreAbsX⟩]

/-- Row 6 of the opcode map (R157): opcode bytes 0x60 to 0x6F. -/
def opcodeRow6 : List Descriptor :=
  [⟨.mRTS, .implied, 1, 6, 0, .documented, .f1 .rts⟩,
   ⟨.mADC, .indexedIndirect, 2, 6, 0, .documented, .f2 .adcIndX⟩,
   ⟨.mJAM, .implied, 1, 2, 0, .undocumented, .f1 .jam62⟩,
   ⟨.mRRA, .indexedIndirect, 2, 8, 0, .undocumented, .f2 .rraIndX⟩,
   ⟨.mNOP, .zeroPage, 2, 3, 0, .undocumented, .f2 .nopZp64⟩,
   ⟨.mADC, .zeroPage, 2, 3, 0, .documented, .f2 .adcZp⟩,
   ⟨.mROR, .zeroPage, 2, 5, 0, .documented, .f2 .rorZp⟩,
   ⟨.mRRA, .zeroPage, 2, 5, 0, .undocumented, .f2 .rraZp⟩,
   ⟨.mPLA, .implied, 1, 4, 0, .documented, .f1 .pla⟩,
   ⟨.mADC, .immediate, 2, 2, 0, .documented, .f2 .adcImm⟩,
   ⟨.mROR, .accumulator, 1, 2, 0, .documented, .f1 .rorAcc⟩,
   ⟨.mARR, .immediate, 2, 2, 0, .undocumented, .f2 .arrImm⟩,
   ⟨.mJMP, .indirect, 3, 5, 0, .documented, .f3 .jmpInd⟩,
   ⟨.mADC, .absolute, 3, 4, 0, .documented, .f3 .adcAbs⟩,
   ⟨.mROR, .absolute, 3, 6, 0, .documented, .f3 .rorAbs⟩,
   ⟨.mRRA, .absolute, 3, 6, 0, .undocumented, .f3 .rraAbs⟩]

/-- Row 7 of the opcode map (R157): opcode bytes 0x70 to 0x7F. -/
def opcodeRow7 : List Descriptor :=
  [⟨.mBVS, .relative, 2, 2, 0, .documented, .f2 (fun b => .bvs b.toInt)⟩,
   ⟨.mADC, .indirectIndexed, 2, 5, 1, .documented, .f2 .adcIndY⟩,
   ⟨.mJAM, .implied, 1, 2, 0, .undocumented, .f1 .jam72⟩,
   ⟨.mRRA, .indirectIndexed, 2, 8, 0, .undocumented, .f2 .rraIndY⟩,
   ⟨.mNOP, .zeroPageX, 2, 4, 0, .undocumented, .f2 .nopZpX74⟩,
   ⟨.mADC, .zeroPageX, 2, 4, 0, .documented, .f2 .adcZpX⟩,
   ⟨.mROR, .zeroPageX, 2, 6, 0, .documented, .f2 .rorZpX⟩,
   ⟨.mRRA, .zeroPageX, 2, 6, 0, .undocumented, .f2 .rraZpX⟩,
   ⟨.mSEI, .implied, 1, 2, 0, .documented, .f1 .sei⟩,
   ⟨.mADC, .absoluteY, 3, 4, 1, .documented, .f3 .adcAbsY⟩,
   ⟨.mNOP, .implied, 1, 2, 0, .undocumented, .f1 .nopImp7A⟩,
   ⟨.mRRA, .absoluteY, 3, 7, 0, .undocumented, .f3 .rraAbsY⟩,
   ⟨.mNOP, .absoluteX, 3, 4, 1, .undocumented, .f3 .nopAbsX7C⟩,
   ⟨.mADC, .absoluteX, 3, 4, 1, .documented, .f3 .adcAbsX⟩,
   ⟨.mROR, .absoluteX, 3, 7, 0, .documented, .f3 .rorAbsX⟩,
   ⟨.mRRA, .absoluteX, 3, 7, 0, .undocumented, .f3 .rraAbsX⟩]

/-- Row 8 of the opcode map (R157): opcode bytes 0x80 to 0x8F. -/
def opcodeRow8 : List Descriptor :=
  [⟨.mNOP, .immediate, 2, 2, 0, .undocumented, .f2 .nopImm80⟩,
   ⟨.mSTA, .indexedIndirect, 2, 6, 0, .documented, .f2 .staIndX⟩,
   ⟨.mNOP, .immediate, 2, 2, 0, .undocumented, .f2 .nopImm82⟩,
   ⟨.mSAX, .indexedIndirect, 2, 6, 0, .undocumented, .f2 .saxIndX⟩,
   ⟨.mSTY, .zeroPage, 2, 3, 0, .documented, .f2 .styZp⟩,
   ⟨.mSTA, .zeroPage, 2, 3, 0, .documented, .f2 .staZp⟩,
   ⟨.mSTX, .zeroPage, 2, 3, 0, .documented, .f2 .stxZp⟩,
   ⟨.mSAX, .zeroPage, 2, 3, 0, .undocumented, .f2 .saxZp⟩,
   ⟨.mDEY, .implied, 1, 2, 0, .documented, .f1 .dey⟩,
   ⟨.mNOP, .immediate, 2, 2, 0, .undocumented, .f2 .nopImm89⟩,
   ⟨.mTXA, .implied, 1, 2, 0, .documented, .f1 .txa⟩,
   ⟨.mXAA, .immediate, 2, 2, 0, .unstable, .f2 .xaaImm⟩,
   ⟨.mSTY, .absolute, 3, 4, 0, .documented, .f3 .styAbs⟩,
   ⟨.mSTA, .absolute, 3, 4, 0, .documented, .f3 .staAbs⟩,
   ⟨.mSTX, .absolute, 3, 4, 0, .documented, .f3 .stxAbs⟩,
   ⟨.mSAX, .absolute, 3, 4, 0, .undocumented, .f3 .saxAbs⟩]

/-- Row 9 of the opcode map (R157): opcode bytes 0x90 to 0x9F. -/
def opcodeRow9 : List Descriptor :=
  [⟨.mBCC, .relative, 2, 2, 0, .documented, .f2 (fun b => .bcc b.toInt)⟩,
   ⟨.mSTA, .indirectIndexed, 2, 6, 0, .documented, .f2 .staIndY⟩,
   ⟨.mJAM, .implied, 1, 2, 0, .undocumented, .f1 .jam92⟩,
   ⟨.mAHX, .indirectIndexed, 2, 6, 0, .unstable, .f2 .ahxIndY⟩,
   ⟨.mSTY, .zeroPageX, 2, 4, 0, .documented, .f2 .styZpX⟩,
   ⟨.mSTA, .zeroPageX, 2, 4, 0, .documented, .f2 .staZpX⟩,
   ⟨.mSTX, .zeroPageY, 2, 4, 0, .documented, .f2 .stxZpY⟩,
   ⟨.mSAX, .zeroPageY, 2, 4, 0, .undocumented, .f2 .saxZpY⟩,
   ⟨.mTYA, .implied, 1, 2, 0, .documented, .f1 .tya⟩,
   ⟨.mSTA, .absoluteY, 3, 5, 0, .documented, .f3 .staAbsY⟩,
   ⟨.mTXS, .implied, 1, 2, 0, .documented, .f1 .txs⟩,
   ⟨.mTAS, .absoluteY, 3, 5, 0, .unstable, .f3 .tasAbsY⟩,
   ⟨.mSHY, .absoluteX, 3, 5, 0, .unstable, .f3 .shyAbsX⟩,
   ⟨.mSTA, .absoluteX, 3, 5, 0, .documented, .f3 .staAbsX⟩,
   ⟨.mSHX, .absoluteY, 3, 5, 0, .unstable, .f3 .shxAbsY⟩,
   ⟨.mAHX, .absoluteY, 3, 5, 0, .unstable, .f3 .ahxAbsY⟩]

/-- Row A of the opcode map (R157): opcode bytes 0xA0 to 0xAF. -/
def opcodeRowA : List Descriptor :=
  [⟨.mLDY, .immediate, 2, 2, 0, .documented, .f2 .ldyImm⟩,
   ⟨.mLDA, .indexedIndirect, 2, 6, 0, .documented, .f2 .ldaIndX⟩,
   ⟨.mLDX, .immediate, 2, 2, 0, .documented, .f2 .ldxImm⟩,
   ⟨.mLAX, .indexedIndirect, 2, 6, 0, .undocumented, .f2 .laxIndX⟩,
   ⟨.mLDY, .zeroPage, 2, 3, 0, .documented, .f2 .ldyZp⟩,
   ⟨.mLDA, .zeroPage, 2, 3, 0, .documented, .f2 .ldaZp⟩,
   ⟨.mLDX, .zeroPage, 2, 3, 0, .documented, .f2 .ldxZp⟩,
   ⟨.mLAX, .zeroPage, 2, 3, 0, .undocumented, .f2 .laxZp⟩,
   ⟨.mTAY, .implied, 1, 2, 0, .documented, .f1 .tay⟩,
   ⟨.mLDA, .immediate, 2, 2, 0, .documented, .f2 .ldaImm⟩,
   ⟨.mTAX, .implied, 1, 2, 0, .documented, .f1 .tax⟩,
   ⟨.mLXA, .immediate, 2, 2, 0, .unstable, .f2 .lxaImm⟩,
   ⟨.mLDY, .absolute, 3, 4, 0, .documented, .f3 .ldyAbs⟩,
   ⟨.mLDA, .absolute, 3, 4, 0, .documented, .f3 .ldaAbs⟩,
   ⟨.mLDX, .absolute, 3, 4, 0, .documented, .f3 .ldxAbs⟩,
   ⟨.mLAX, .absolute, 3, 4, 0, .undocumented, .f3 .laxAbs⟩]

/-- Row B of the opcode map (R157): opcode bytes 0xB0 to 0xBF. -/
def opcodeRowB : List Descriptor :=
  [⟨.mBCS, .relative, 2, 2, 0, .documented, .f2 (fun b => .bcs b.toInt)⟩,
   ⟨.mLDA, .indirectIndexed, 2, 5, 1, .documented, .f2 .ldaIndY⟩,
   ⟨.mJAM, .implied, 1, 2, 0, .undocumented, .f1 .jamB2⟩,
   ⟨.mLAX, .indirectIndexed, 2, 5, 1, .undocumented, .f2 .laxIndY⟩,
   ⟨.mLDY, .zeroPageX, 2, 4, 0, .documented, .f2 .ldyZpX⟩,
   ⟨.mLDA, .zeroPageX, 2, 4, 0, .documented, .f2 .ldaZpX⟩,
   ⟨.mLDX, .zeroPageY, 2, 4, 0, .documented, .f2 .ldxZpY⟩,
   ⟨.mLAX, .zeroPageY, 2, 4, 0, .undocumented, .f2 .laxZpY⟩,
   ⟨.mCLV, .implied, 1, 2, 0, .documented, .f1 .clv⟩,
   ⟨.mLDA, .absoluteY, 3, 4, 1, .documented, .f3 .ldaAbsY⟩,
   ⟨.mTSX, .implied, 1, 2, 0, .documented, .f1 .tsx⟩,
   ⟨.mLAS, .absoluteY, 3, 4, 1, .undocumented, .f3 .lasAbsY⟩,
   ⟨.mLDY, .absoluteX, 3, 4, 1, .documented, .f3 .ldyAbsX⟩,
   ⟨.mLDA, .absoluteX, 3, 4, 1, .documented, .f3 .ldaAbsX⟩,
   ⟨.mLDX, .absoluteY, 3, 4, 1, .documented, .f3 .ldxAbsY⟩,
   ⟨.mLAX, .absoluteY, 3, 4, 1, .undocumented, .f3 .laxAbsY⟩]

/-- Row C of the opcode map (R157): opcode bytes 0xC0 to 0xCF. -/
def opcodeRowC : List Descriptor :=
  [⟨.mCPY, .immediate, 2, 2, 0, .documented, .f2 .cpyImm⟩,
   ⟨.mCMP, .indexedIndirect, 2, 6, 0, .documented, .f2 .cmpIndX⟩,
   ⟨.mNOP, .immediate, 2, 2, 0, .undocumented, .f2 .nopImmC2⟩,
   ⟨.mDCP, .indexedIndirect, 2, 8, 0, .undocumented, .f2 .dcpIndX⟩,
   ⟨.mCPY, .zeroPage, 2, 3, 0, .documented, .f2 .cpyZp⟩,
   ⟨.mCMP, .zeroPage, 2, 3, 0, .documented, .f2 .cmpZp⟩,
   ⟨.mDEC, .zeroPage, 2, 5, 0, .documented, .f2 .decZp⟩,
   ⟨.mDCP, .zeroPage, 2, 5, 0, .undocumented, .f2 .dcpZp⟩,
   ⟨.mINY, .implied, 1, 2, 0, .documented, .f1 .iny⟩,
   ⟨.mCMP, .immediate, 2, 2, 0, .documented, .f2 .cmpImm⟩,
   ⟨.mDEX, .implied, 1, 2, 0, .documented, .f1 .dex⟩,
   ⟨.mAXS, .immediate, 2, 2, 0, .undocumented, .f2 .axsImm⟩,
   ⟨.mCPY, .absolute, 3, 4, 0, .documented, .f3 .cpyAbs⟩,
   ⟨.mCMP, .absolute, 3, 4, 0, .documented, .f3 .cmpAbs⟩,
   ⟨.mDEC, .absolute, 3, 6, 0, .documented, .f3 .decAbs⟩,
   ⟨.mDCP, .absolute, 3, 6, 0, .undocumented, .f3 .dcpAbs⟩]

/-- Row D of the opcode map (R157): opcode bytes 0xD0 to 0xDF. -/
def opcodeRowD : List Descriptor :=
  [⟨.mBNE, .relative, 2, 2, 0, .documented, .f2 (fun b => .bne b.toInt)⟩,
   ⟨.mCMP, .indirectIndexed, 2, 5, 1, .documented, .f2 .cmpIndY⟩,
   ⟨.mJAM, .implied, 1, 2, 0, .undocumented, .f1 .jamD2⟩,
   ⟨.mDCP, .indirectIndexed, 2, 8, 0, .undocumented, .f2 .dcpIndY⟩,
   ⟨.mNOP, .zeroPageX, 2, 4, 0, .undocumented, .f2 .nopZpXD4⟩,
   ⟨.mCMP, .zeroPageX, 2, 4, 0, .documented, .f2 .cmpZpX⟩,
   ⟨.mDEC, .zeroPageX, 2, 6, 0, .documented, .f2 .decZpX⟩,
   ⟨.mDCP, .zeroPageX, 2, 6, 0, .undocumented, .f2 .dcpZpX⟩,
   ⟨.mCLD, .implied, 1, 2, 0, .documented, .f1 .cld⟩,
   ⟨.mCMP, .absoluteY, 3, 4, 1, .documented, .f3 .cmpAbsY⟩,
   ⟨.mNOP, .implied, 1, 2, 0, .undocumented, .f1 .nopImpDA⟩,
   ⟨.mDCP, .absoluteY, 3, 7, 0, .undocumented, .f3 .dcpAbsY⟩,
   ⟨.mNOP, .absoluteX, 3, 4, 1, .undocumented, .f3 .nopAbsXDC⟩,
   ⟨.mCMP, .absoluteX, 3, 4, 1, .documented, .f3 .cmpAbsX⟩,
   ⟨.mDEC, .absoluteX, 3, 7, 0, .documented, .f3 .decAbsX⟩,
   ⟨.mDCP, .absoluteX, 3, 7, 0, .undocumented, .f3 .dcpAbsX⟩]

/-- Row E of the opcode map (R157): opcode bytes 0xE0 to 0xEF. -/
def opcodeRowE : List Descriptor :=
  [⟨.mCPX, .immediate, 2, 2, 0, .documented, .f2 .cpxImm⟩,
   ⟨.mSBC, .indexedIndirect, 2, 6, 0, .documented, .f2 .sbcIndX⟩,
   ⟨.mNOP, .immediate, 2, 2, 0, .undocumented, .f2 .nopImmE2⟩,
   ⟨.mISB, .indexedIndirect, 2, 8, 0, .undocumented, .f2 .isbIndX⟩,
   ⟨.mCPX, .zeroPage, 2, 3, 0, .documented, .f2 .cpxZp⟩,
   ⟨.mSBC, .zeroPage, 2, 3, 0, .documented, .f2 .sbcZp⟩,
   ⟨.mINC, .zeroPage, 2, 5, 0, .documented, .f2 .incZp⟩,
   ⟨.mISB, .zeroPage, 2, 5, 0, .undocumented, .f2 .isbZp⟩,
   ⟨.mINX, .implied, 1, 2, 0, .documented, .f1 .inx⟩,
   ⟨.mSBC, .immediate, 2, 2, 0, .documented, .f2 .sbcImm⟩,
   ⟨.mNOP, .implied, 1, 2, 0, .documented, .f1 .nop⟩,
   ⟨.mSBC, .immediate, 2, 2, 0, .undocumented, .f2 .sbcImmEB⟩,
   ⟨.mCPX, .absolute, 3, 4, 0, .documented, .f3 .cpxAbs⟩,
   ⟨.mSBC, .absolute, 3, 4, 0, .documented, .f3 .sbcAbs⟩,
   ⟨.mINC, .absolute, 3, 6, 0, .documented, .f3 .incAbs⟩,
   ⟨.mISB, .absolute, 3, 6, 0, .undocumented, .f3 .isbAbs⟩]

/-- Row F of the opcode map (R157): opcode bytes 0xF0 to 0xFF. -/
def opcodeRowF : List Descriptor :=
  [⟨.mBEQ, .relative, 2, 2, 0, .documented, .f2 (fun b => .beq b.toInt)⟩,
   ⟨.mSBC, .indirectIndexed, 2, 5, 1, .documented, .f2 .sbcIndY⟩,
   ⟨.mJAM, .implied, 1, 2, 0, .undocumented, .f1 .jamF2⟩,
   ⟨.mISB, .indirectIndexed, 2, 8, 0, .undocumented, .f2 .isbIndY⟩,
   ⟨.mNOP, .zeroPageX, 2, 4, 0, .undocumented, .f2 .nopZpXF4⟩,
   ⟨.mSBC, .zeroPageX, 2, 4, 0, .documented, .f2 .sbcZpX⟩,
   ⟨.mINC, .zeroPageX, 2, 6, 0, .documented, .f2 .incZpX⟩,
   ⟨.mISB, .zeroPageX, 2, 6, 0, .undocumented, .f2 .isbZpX⟩,
   ⟨.mSED, .implied, 1, 2, 0, .documented, .f1 .sed⟩,
   ⟨.mSBC, .absoluteY, 3, 4, 1, .documented, .f3 .sbcAbsY⟩,
   ⟨.mNOP, .implied, 1, 2, 0, .undocumented, .f1 .nopImpFA⟩,
   ⟨.mISB, .absoluteY, 3, 7, 0, .undocumented, .f3 .isbAbsY⟩,
   ⟨.mNOP, .absoluteX, 3, 4, 1, .undocumented, .f3 .nopAbsXFC⟩,
   ⟨.mSBC, .absoluteX, 3, 4, 1, .documented, .f3 .sbcAbsX⟩,
   ⟨.mINC, .absoluteX, 3, 7, 0, .documented, .f3 .incAbsX⟩,
   ⟨.mISB, .absoluteX, 3, 7, 0, .undocumented, .f3 .isbAbsX⟩]

/-- The opcode map (R157), row by row. -/
def opcodeMap : List (List Descriptor) :=
  [opcodeRow0, opcodeRow1, opcodeRow2, opcodeRow3] ++ [opcodeRow4, opcodeRow5, opcodeRow6, opcodeRow7] ++
  [opcodeRow8, opcodeRow9, opcodeRowA, opcodeRowB] ++ [opcodeRowC, opcodeRowD, opcodeRowE, opcodeRowF]

/-- `DESC[op]` (R165): the row of the high nibble, the cell of the low nibble. -/
def descriptor? (op : Byte) : Option Descriptor :=
  (opcodeMap[op.toNat / 16]?).bind fun row => row[op.toNat % 16]?

/-- The format of an opcode byte. -/
def opcodeShape (op : Byte) : Shape :=
  match descriptor? op with
  | some d => d.shape
  | none => .none

/-- How many operand bytes follow an opcode byte (R141, R142). -/
def operandCount (op : Byte) : Nat :=
  match opcodeShape op with
  | .f1 _ => 0
  | .f2 _ => 1
  | .f3 _ => 2
  | .none => 0

/-! ## Decoding -/

/-- Why bytes do not decode. -/
inductive DecodeError where
  /-- no byte at all -/
  | noBytes
  /-- the operand bytes of this opcode are not all there -/
  | truncated (op : Byte)
  /-- no row for this opcode byte (R160) -/
  | unknownOpcode (op : Byte)
  deriving DecidableEq, Repr

/-- The instruction the first bytes of `bytes` encode, and the bytes after it (R140 to R142). -/
def decode (bytes : List Byte) : Except DecodeError (Instr × List Byte) :=
  match bytes with
  | [] => .error .noBytes
  | op :: rest =>
    match opcodeShape op, rest with
    | .f1 i, rest => .ok (i, rest)
    | .f2 build, b :: rest => .ok (build b, rest)
    | .f3 build, lo :: hi :: rest => .ok (build (wordOf hi lo), rest)
    | .none, _ => .error (.unknownOpcode op)
    | _, _ => .error (.truncated op)

/-- The instruction an opcode byte and operand bytes `b1`, `b2` make, each byte read only if the format asks for it. -/
def decodeBytes (op b1 b2 : Byte) : Option Instr :=
  match decode [op, b1, b2] with
  | .ok (i, _) => some i
  | .error _ => none

/-! ## Encoding -/

/-- The bytes of an instruction, first byte first (R140, R141): the opcode byte, then the operand bytes, a 16-bit operand
low byte first (R81). BRK is one byte; the byte the CPU skips after it is no part of it (R141). -/
def encode (i : Instr) : List Byte :=
  match i with
  | .brk => [0x00]
  | .oraIndX zp => [0x01, zp]
  | .jam02 => [0x02]
  | .sloIndX zp => [0x03, zp]
  | .nopZp04 zp => [0x04, zp]
  | .oraZp zp => [0x05, zp]
  | .aslZp zp => [0x06, zp]
  | .sloZp zp => [0x07, zp]
  | .php => [0x08]
  | .oraImm imm => [0x09, imm]
  | .aslAcc => [0x0A]
  | .ancImm0B imm => [0x0B, imm]
  | .nopAbs addr => [0x0C, lowByte addr, highByte addr]
  | .oraAbs addr => [0x0D, lowByte addr, highByte addr]
  | .aslAbs addr => [0x0E, lowByte addr, highByte addr]
  | .sloAbs addr => [0x0F, lowByte addr, highByte addr]
  | .bpl off => [0x10, BitVec.ofInt 8 off]
  | .oraIndY zp => [0x11, zp]
  | .jam12 => [0x12]
  | .sloIndY zp => [0x13, zp]
  | .nopZpX14 zp => [0x14, zp]
  | .oraZpX zp => [0x15, zp]
  | .aslZpX zp => [0x16, zp]
  | .sloZpX zp => [0x17, zp]
  | .clc => [0x18]
  | .oraAbsY addr => [0x19, lowByte addr, highByte addr]
  | .nopImp1A => [0x1A]
  | .sloAbsY addr => [0x1B, lowByte addr, highByte addr]
  | .nopAbsX1C addr => [0x1C, lowByte addr, highByte addr]
  | .oraAbsX addr => [0x1D, lowByte addr, highByte addr]
  | .aslAbsX addr => [0x1E, lowByte addr, highByte addr]
  | .sloAbsX addr => [0x1F, lowByte addr, highByte addr]
  | .jsrAbs addr => [0x20, lowByte addr, highByte addr]
  | .andIndX zp => [0x21, zp]
  | .jam22 => [0x22]
  | .rlaIndX zp => [0x23, zp]
  | .bitZp zp => [0x24, zp]
  | .andZp zp => [0x25, zp]
  | .rolZp zp => [0x26, zp]
  | .rlaZp zp => [0x27, zp]
  | .plp => [0x28]
  | .andImm imm => [0x29, imm]
  | .rolAcc => [0x2A]
  | .ancImm2B imm => [0x2B, imm]
  | .bitAbs addr => [0x2C, lowByte addr, highByte addr]
  | .andAbs addr => [0x2D, lowByte addr, highByte addr]
  | .rolAbs addr => [0x2E, lowByte addr, highByte addr]
  | .rlaAbs addr => [0x2F, lowByte addr, highByte addr]
  | .bmi off => [0x30, BitVec.ofInt 8 off]
  | .andIndY zp => [0x31, zp]
  | .jam32 => [0x32]
  | .rlaIndY zp => [0x33, zp]
  | .nopZpX34 zp => [0x34, zp]
  | .andZpX zp => [0x35, zp]
  | .rolZpX zp => [0x36, zp]
  | .rlaZpX zp => [0x37, zp]
  | .sec => [0x38]
  | .andAbsY addr => [0x39, lowByte addr, highByte addr]
  | .nopImp3A => [0x3A]
  | .rlaAbsY addr => [0x3B, lowByte addr, highByte addr]
  | .nopAbsX3C addr => [0x3C, lowByte addr, highByte addr]
  | .andAbsX addr => [0x3D, lowByte addr, highByte addr]
  | .rolAbsX addr => [0x3E, lowByte addr, highByte addr]
  | .rlaAbsX addr => [0x3F, lowByte addr, highByte addr]
  | .rti => [0x40]
  | .eorIndX zp => [0x41, zp]
  | .jam42 => [0x42]
  | .sreIndX zp => [0x43, zp]
  | .nopZp44 zp => [0x44, zp]
  | .eorZp zp => [0x45, zp]
  | .lsrZp zp => [0x46, zp]
  | .sreZp zp => [0x47, zp]
  | .pha => [0x48]
  | .eorImm imm => [0x49, imm]
  | .lsrAcc => [0x4A]
  | .alrImm imm => [0x4B, imm]
  | .jmpAbs addr => [0x4C, lowByte addr, highByte addr]
  | .eorAbs addr => [0x4D, lowByte addr, highByte addr]
  | .lsrAbs addr => [0x4E, lowByte addr, highByte addr]
  | .sreAbs addr => [0x4F, lowByte addr, highByte addr]
  | .bvc off => [0x50, BitVec.ofInt 8 off]
  | .eorIndY zp => [0x51, zp]
  | .jam52 => [0x52]
  | .sreIndY zp => [0x53, zp]
  | .nopZpX54 zp => [0x54, zp]
  | .eorZpX zp => [0x55, zp]
  | .lsrZpX zp => [0x56, zp]
  | .sreZpX zp => [0x57, zp]
  | .cli => [0x58]
  | .eorAbsY addr => [0x59, lowByte addr, highByte addr]
  | .nopImp5A => [0x5A]
  | .sreAbsY addr => [0x5B, lowByte addr, highByte addr]
  | .nopAbsX5C addr => [0x5C, lowByte addr, highByte addr]
  | .eorAbsX addr => [0x5D, lowByte addr, highByte addr]
  | .lsrAbsX addr => [0x5E, lowByte addr, highByte addr]
  | .sreAbsX addr => [0x5F, lowByte addr, highByte addr]
  | .rts => [0x60]
  | .adcIndX zp => [0x61, zp]
  | .jam62 => [0x62]
  | .rraIndX zp => [0x63, zp]
  | .nopZp64 zp => [0x64, zp]
  | .adcZp zp => [0x65, zp]
  | .rorZp zp => [0x66, zp]
  | .rraZp zp => [0x67, zp]
  | .pla => [0x68]
  | .adcImm imm => [0x69, imm]
  | .rorAcc => [0x6A]
  | .arrImm imm => [0x6B, imm]
  | .jmpInd addr => [0x6C, lowByte addr, highByte addr]
  | .adcAbs addr => [0x6D, lowByte addr, highByte addr]
  | .rorAbs addr => [0x6E, lowByte addr, highByte addr]
  | .rraAbs addr => [0x6F, lowByte addr, highByte addr]
  | .bvs off => [0x70, BitVec.ofInt 8 off]
  | .adcIndY zp => [0x71, zp]
  | .jam72 => [0x72]
  | .rraIndY zp => [0x73, zp]
  | .nopZpX74 zp => [0x74, zp]
  | .adcZpX zp => [0x75, zp]
  | .rorZpX zp => [0x76, zp]
  | .rraZpX zp => [0x77, zp]
  | .sei => [0x78]
  | .adcAbsY addr => [0x79, lowByte addr, highByte addr]
  | .nopImp7A => [0x7A]
  | .rraAbsY addr => [0x7B, lowByte addr, highByte addr]
  | .nopAbsX7C addr => [0x7C, lowByte addr, highByte addr]
  | .adcAbsX addr => [0x7D, lowByte addr, highByte addr]
  | .rorAbsX addr => [0x7E, lowByte addr, highByte addr]
  | .rraAbsX addr => [0x7F, lowByte addr, highByte addr]
  | .nopImm80 imm => [0x80, imm]
  | .staIndX zp => [0x81, zp]
  | .nopImm82 imm => [0x82, imm]
  | .saxIndX zp => [0x83, zp]
  | .styZp zp => [0x84, zp]
  | .staZp zp => [0x85, zp]
  | .stxZp zp => [0x86, zp]
  | .saxZp zp => [0x87, zp]
  | .dey => [0x88]
  | .nopImm89 imm => [0x89, imm]
  | .txa => [0x8A]
  | .xaaImm imm => [0x8B, imm]
  | .styAbs addr => [0x8C, lowByte addr, highByte addr]
  | .staAbs addr => [0x8D, lowByte addr, highByte addr]
  | .stxAbs addr => [0x8E, lowByte addr, highByte addr]
  | .saxAbs addr => [0x8F, lowByte addr, highByte addr]
  | .bcc off => [0x90, BitVec.ofInt 8 off]
  | .staIndY zp => [0x91, zp]
  | .jam92 => [0x92]
  | .ahxIndY zp => [0x93, zp]
  | .styZpX zp => [0x94, zp]
  | .staZpX zp => [0x95, zp]
  | .stxZpY zp => [0x96, zp]
  | .saxZpY zp => [0x97, zp]
  | .tya => [0x98]
  | .staAbsY addr => [0x99, lowByte addr, highByte addr]
  | .txs => [0x9A]
  | .tasAbsY addr => [0x9B, lowByte addr, highByte addr]
  | .shyAbsX addr => [0x9C, lowByte addr, highByte addr]
  | .staAbsX addr => [0x9D, lowByte addr, highByte addr]
  | .shxAbsY addr => [0x9E, lowByte addr, highByte addr]
  | .ahxAbsY addr => [0x9F, lowByte addr, highByte addr]
  | .ldyImm imm => [0xA0, imm]
  | .ldaIndX zp => [0xA1, zp]
  | .ldxImm imm => [0xA2, imm]
  | .laxIndX zp => [0xA3, zp]
  | .ldyZp zp => [0xA4, zp]
  | .ldaZp zp => [0xA5, zp]
  | .ldxZp zp => [0xA6, zp]
  | .laxZp zp => [0xA7, zp]
  | .tay => [0xA8]
  | .ldaImm imm => [0xA9, imm]
  | .tax => [0xAA]
  | .lxaImm imm => [0xAB, imm]
  | .ldyAbs addr => [0xAC, lowByte addr, highByte addr]
  | .ldaAbs addr => [0xAD, lowByte addr, highByte addr]
  | .ldxAbs addr => [0xAE, lowByte addr, highByte addr]
  | .laxAbs addr => [0xAF, lowByte addr, highByte addr]
  | .bcs off => [0xB0, BitVec.ofInt 8 off]
  | .ldaIndY zp => [0xB1, zp]
  | .jamB2 => [0xB2]
  | .laxIndY zp => [0xB3, zp]
  | .ldyZpX zp => [0xB4, zp]
  | .ldaZpX zp => [0xB5, zp]
  | .ldxZpY zp => [0xB6, zp]
  | .laxZpY zp => [0xB7, zp]
  | .clv => [0xB8]
  | .ldaAbsY addr => [0xB9, lowByte addr, highByte addr]
  | .tsx => [0xBA]
  | .lasAbsY addr => [0xBB, lowByte addr, highByte addr]
  | .ldyAbsX addr => [0xBC, lowByte addr, highByte addr]
  | .ldaAbsX addr => [0xBD, lowByte addr, highByte addr]
  | .ldxAbsY addr => [0xBE, lowByte addr, highByte addr]
  | .laxAbsY addr => [0xBF, lowByte addr, highByte addr]
  | .cpyImm imm => [0xC0, imm]
  | .cmpIndX zp => [0xC1, zp]
  | .nopImmC2 imm => [0xC2, imm]
  | .dcpIndX zp => [0xC3, zp]
  | .cpyZp zp => [0xC4, zp]
  | .cmpZp zp => [0xC5, zp]
  | .decZp zp => [0xC6, zp]
  | .dcpZp zp => [0xC7, zp]
  | .iny => [0xC8]
  | .cmpImm imm => [0xC9, imm]
  | .dex => [0xCA]
  | .axsImm imm => [0xCB, imm]
  | .cpyAbs addr => [0xCC, lowByte addr, highByte addr]
  | .cmpAbs addr => [0xCD, lowByte addr, highByte addr]
  | .decAbs addr => [0xCE, lowByte addr, highByte addr]
  | .dcpAbs addr => [0xCF, lowByte addr, highByte addr]
  | .bne off => [0xD0, BitVec.ofInt 8 off]
  | .cmpIndY zp => [0xD1, zp]
  | .jamD2 => [0xD2]
  | .dcpIndY zp => [0xD3, zp]
  | .nopZpXD4 zp => [0xD4, zp]
  | .cmpZpX zp => [0xD5, zp]
  | .decZpX zp => [0xD6, zp]
  | .dcpZpX zp => [0xD7, zp]
  | .cld => [0xD8]
  | .cmpAbsY addr => [0xD9, lowByte addr, highByte addr]
  | .nopImpDA => [0xDA]
  | .dcpAbsY addr => [0xDB, lowByte addr, highByte addr]
  | .nopAbsXDC addr => [0xDC, lowByte addr, highByte addr]
  | .cmpAbsX addr => [0xDD, lowByte addr, highByte addr]
  | .decAbsX addr => [0xDE, lowByte addr, highByte addr]
  | .dcpAbsX addr => [0xDF, lowByte addr, highByte addr]
  | .cpxImm imm => [0xE0, imm]
  | .sbcIndX zp => [0xE1, zp]
  | .nopImmE2 imm => [0xE2, imm]
  | .isbIndX zp => [0xE3, zp]
  | .cpxZp zp => [0xE4, zp]
  | .sbcZp zp => [0xE5, zp]
  | .incZp zp => [0xE6, zp]
  | .isbZp zp => [0xE7, zp]
  | .inx => [0xE8]
  | .sbcImm imm => [0xE9, imm]
  | .nop => [0xEA]
  | .sbcImmEB imm => [0xEB, imm]
  | .cpxAbs addr => [0xEC, lowByte addr, highByte addr]
  | .sbcAbs addr => [0xED, lowByte addr, highByte addr]
  | .incAbs addr => [0xEE, lowByte addr, highByte addr]
  | .isbAbs addr => [0xEF, lowByte addr, highByte addr]
  | .beq off => [0xF0, BitVec.ofInt 8 off]
  | .sbcIndY zp => [0xF1, zp]
  | .jamF2 => [0xF2]
  | .isbIndY zp => [0xF3, zp]
  | .nopZpXF4 zp => [0xF4, zp]
  | .sbcZpX zp => [0xF5, zp]
  | .incZpX zp => [0xF6, zp]
  | .isbZpX zp => [0xF7, zp]
  | .sed => [0xF8]
  | .sbcAbsY addr => [0xF9, lowByte addr, highByte addr]
  | .nopImpFA => [0xFA]
  | .isbAbsY addr => [0xFB, lowByte addr, highByte addr]
  | .nopAbsXFC addr => [0xFC, lowByte addr, highByte addr]
  | .sbcAbsX addr => [0xFD, lowByte addr, highByte addr]
  | .incAbsX addr => [0xFE, lowByte addr, highByte addr]
  | .isbAbsX addr => [0xFF, lowByte addr, highByte addr]

/-- The opcode byte of an instruction. -/
def Instr.opcode (i : Instr) : Byte := (encode i).headI

/-- The row of an instruction's opcode byte (R165). -/
def Instr.descriptor? (i : Instr) : Option Descriptor := Sys2Proof.descriptor? i.opcode

/-- The k-th byte of the instruction whose bits are `w`, bit 0 the least significant bit of the first byte. -/
def tableByte (nbits w k : Nat) : Byte := BitVec.ofNat 8 ((w % 2 ^ nbits) / 256 ^ k)

/-- The instruction the decoder reads from an instruction whose bits are `w`, numbered as spec/opcode_table.json numbers
them; every bit from `nbits` up is zero. -/
def decodeTableWord (nbits w : Nat) : Option Instr :=
  decodeBytes (tableByte nbits w 0) (tableByte nbits w 1) (tableByte nbits w 2)

end Sys2Proof
end

