-- ==== Sys2Proof/Config.lean ====
section
/-! DEFINITION. What the spec leaves to the model's user (R12): the three sources of values the model does not fix
(R19 `draw`, and the oracles `APU_READ` and `INPUT_READ` of R92), and the parameters a model instance carries. -/

namespace Sys2Proof

/-- R19 `draw()`: the k-th draw of a run. No body: nothing in Lean can say what it is, so a claim holds for every
value. (Free value, log entry 1.) -/
opaque Config.draw : Nat → Byte

/-- R92 `APU_READ(a)`: the answer of the audio unit to a CPU read of `a`, as the k-th outside value of a run.
(Free value, log entry 1.) -/
opaque Config.apuRead : Nat → Word → Byte

/-- R92 `INPUT_READ(a)`: the answer of a controller port to a CPU read of `a`, as the k-th outside value of a run.
(Free value, log entry 1.) -/
opaque Config.inputRead : Nat → Word → Byte

/-- R12 `UNSTABLE_OPCODES`: whether the seven opcodes of R332 refuse or follow their formulas. -/
inductive UnstableOpcodes where
  | refuse
  | formula
  deriving DecidableEq, Repr

/-- The parameters of R12 that a step reads. They are fixed for a run: no step writes them. -/
structure Params where
  /-- `NMI_DELAY_DOTS`, an integer of at least 1 (D6). -/
  nmiDelayDots : Nat
  /-- `UNSTABLE_OPCODES` (D35). -/
  unstable : UnstableOpcodes
  /-- `MAGIC`, the constant of the XAA and LXA formulas (D35). -/
  magic : Byte
  deriving DecidableEq, Repr

/-- The parameters `State.reset` carries. `NMI_DELAY_DOTS` = 15 and `MAGIC` = 0xEE are the defaults of R12;
`UNSTABLE_OPCODES` is `formula`, the value under which the seven opcodes run (DESIGN CHOICE, log entry 2). -/
def Params.atReset : Params :=
  { nmiDelayDots := 15, unstable := .formula, magic := 0xEE#8 }

end Sys2Proof
end

