-- ==== Sys2Proof/Machine/State.lean ====
section
/-! DEFINITION. The state of the CORE as plain data: every piece of state that 10_state.md (R30 to R69) names, the
model's parameters and inputs (R12), the reasons a step can stop (R500 to R502), and the state after reset
(R550 to R554). INVENTORY.md lists the fields with their rules and reset values. -/

namespace Sys2Proof.Machine

/-- Cells of `w` bits by index, in one canonical form (`Cells.wf` in Machine/Memory.lean): indices strictly rising and
no cell equal to zero, which is what an unlisted index reads as (log entry 3). -/
abbrev Cells (w : Nat) := List (Nat × BitVec w)

/-- A byte memory: a list of `Host.Cell`. -/
abbrev Memory := Cells 8

/-- The six stored bits of P (R35 to R43). B has no storage and reads 0, U reads 1 (R40, R41): neither is a field. -/
structure Status where
  c : Bool
  z : Bool
  i : Bool
  d : Bool
  v : Bool
  n : Bool
  deriving DecidableEq, Repr

/-- PPUCTRL's fields (R52). -/
structure Ctrl where
  /-- bits 1-0, base nametable -/
  nt : BitVec 2
  /-- bit 2, PPUDATA increment: set adds 32 -/
  inc : Bool
  /-- bit 3, pattern table of 8x8 sprites -/
  sprTable : Bool
  /-- bit 4, pattern table of the background -/
  bgTable : Bool
  /-- bit 5, sprites are 16 lines high -/
  sprSize : Bool
  /-- bit 6, stored, no effect -/
  master : Bool
  /-- bit 7, NMI enable -/
  nmiOutput : Bool
  deriving DecidableEq, Repr

/-- PPUMASK's fields (R53), bit 0 first. -/
structure Mask where
  gray : Bool
  bgLeft : Bool
  sprLeft : Bool
  bg : Bool
  spr : Bool
  emR : Bool
  emG : Bool
  emB : Bool
  deriving DecidableEq, Repr

/-- The background pipeline (R62). -/
structure Background where
  /-- `bg.nt`, nametable byte last fetched -/
  nt : Byte
  /-- `bg.at`, attribute palette number shifted left by 2 -/
  attr : BitVec 4
  /-- `bg.lo`, low pattern plane -/
  lo : Byte
  /-- `bg.hi`, high pattern plane -/
  hi : Byte
  /-- `bg.tiles`, 16 pixels of 4 bits -/
  tiles : BitVec 64
  deriving DecidableEq, Repr

/-- One slot of the sprite line buffer (R63). -/
structure SpriteSlot where
  pattern : BitVec 32
  xpos : Byte
  prio : Bool
  index : BitVec 6
  deriving DecidableEq, Repr

/-- The PPU (R50 to R63). -/
structure Ppu where
  /-- current VRAM address (R50) -/
  v : BitVec 15
  /-- temporary VRAM address (R50) -/
  t : BitVec 15
  /-- fine X scroll (R51) -/
  x : BitVec 3
  /-- write toggle (R51) -/
  w : Bool
  ctrl : Ctrl
  mask : Mask
  /-- PPUSTATUS bit 7, `nmi_occurred` (R54) -/
  vblank : Bool
  /-- PPUSTATUS bit 6 (R54) -/
  spr0Hit : Bool
  /-- PPUSTATUS bit 5 (R54) -/
  sprOverflow : Bool
  /-- the I/O latch (R55) -/
  latch : Byte
  /-- OAM write cursor (R56) -/
  oamAddr : Byte
  /-- OAM, 256 bytes (R56) -/
  oam : Memory
  /-- palette RAM, 6-bit entries (R57) -/
  pal : Cells 6
  /-- nametable RAM, 2,048 bytes (R58) -/
  ciram : Memory
  /-- PPUDATA read buffer (R59) -/
  buffer : Byte
  /-- 0 to 340 (R60) -/
  dot : Nat
  /-- 0 to 261 (R60) -/
  scanline : Nat
  /-- frame parity (R60) -/
  odd : Bool
  /-- completed frames (R60) -/
  frame : Nat
  /-- `nmi_output AND vblank` at the last evaluation (R61) -/
  nmiPrevious : Bool
  /-- dots until the NMI is passed on; 0 when none is scheduled (R61) -/
  nmiDelay : Nat
  bg : Background
  /-- `spr.count` (R63) -/
  sprCount : Nat
  /-- the eight slots (R63) -/
  sprites : Vector SpriteSlot 8
  deriving DecidableEq, Repr

/-- Nametable mirroring mode of the cartridge (R66, R113). -/
inductive Mirroring where
  | horizontal
  | vertical
  deriving DecidableEq, Repr

/-- The two admitted mappers: id 0 (NROM, R99) and id 2 (UxROM, R100). -/
inductive Mapper where
  | nrom
  | uxrom
  deriving DecidableEq, Repr

/-- The cartridge inside a console (R66). Only `chr` can change, and only when it is CHR-RAM (R67). -/
structure Cart where
  /-- PRG-ROM bytes by offset -/
  prgRom : Memory
  /-- `n`, the number of 16 KB PRG banks -/
  prgBanks : Nat
  /-- CHR bytes by offset -/
  chr : Memory
  /-- `m`, the number of 8 KB CHR-ROM banks; 0 means 8 KB of CHR-RAM -/
  chrBanks : Nat
  mirroring : Mirroring
  mapper : Mapper
  /-- header byte 8 -/
  prgRamUnits : Nat
  deriving DecidableEq, Repr

/-- One composed pixel sent to the frame sink (R452). -/
structure Pixel where
  x : Nat
  y : Nat
  colour : BitVec 6
  deriving DecidableEq, Repr

/-- The four event streams (R69), oldest event first. -/
structure Outputs where
  pixels : List Pixel
  apuWrites : List (Word × Byte)
  controllerWrites : List (Word × Byte)
  oracleReads : List (Word × Byte)
  deriving DecidableEq, Repr

/-- The whole CORE: CPU (R30 to R47), memories (R64, R65), mapper (R68), cartridge (R66), PPU (R50 to R63), outputs
(R69), and, as the model's own fields, the parameters (R12), the IRQ input stream (R48) and the count of free values
used (log entry 1). -/
structure State where
  /-- accumulator (R31) -/
  a : Byte
  /-- index register X (R32) -/
  x : Byte
  /-- index register Y (R32) -/
  y : Byte
  /-- stack pointer (R33) -/
  sp : Byte
  /-- program counter (R34) -/
  pc : Word
  /-- status register (R35) -/
  p : Status
  /-- CPU cycle counter (R45) -/
  cycles : Nat
  /-- DMA stall counter (R46) -/
  stall : Nat
  /-- NMI request latch (R47) -/
  nmiPending : Bool
  /-- CPU internal RAM by index 0 to 2047 (R64) -/
  ram : Memory
  /-- PRG-RAM by index (R65) -/
  prgRam : Memory
  /-- mapper 2's bank register (R68) -/
  bankSel : Nat
  cart : Cart
  ppu : Ppu
  out : Outputs
  /-- the level of `irq_line` at this CPU step and the next ones; low once the list is empty (R48, R12) -/
  irqInputs : List Bool
  /-- how many free values this run has used (the model's own field) -/
  draws : Nat
  params : Params
  deriving DecidableEq, Repr

/-- The cartridge arrays an offset can leave (R103). -/
inductive Region where
  | prgRom
  | prgRam
  | chr
  deriving DecidableEq, Repr

/-- The faulted states `Faulted(F, info)` of R500, one constructor for each fault kind of R501: the kind's information, then
`kept`, the state at the point of the fault, in which the writes made earlier in the step stand (R165, R500, D46). It is for
inspection only: no step goes on from it. Stopping is safe: nothing is claimed of a faulted run. -/
inductive Fault where
  /-- Raised by a CPU access to 0x4018-0x5FFF (R93). Safe. -/
  | notImplemented (addr : Word) (kept : State)
  /-- Raised by a PRG-ROM read whose offset is outside the array (R103); no admitted cartridge reaches it, and a
  PRG-RAM or CHR offset is never outside its array (log entry 4). Safe. -/
  | cartridgeOutOfRange (region : Region) (offset : Nat) (kept : State)
  /-- Raised by the 12 halting opcodes with the opcode's address (R325). Safe. -/
  | jam (pc : Word) (kept : State)
  /-- Raised by a step whose opcode byte the decoder has no row for (R160); the table is full, so no step raises it.
  Safe. -/
  | unknownOpcode (op : Byte) (kept : State)
  deriving DecidableEq, Repr

/-- The refusals of R502. Refusing is safe: nothing is claimed of a refused run. -/
inductive Refusal where
  /-- Raised by an arm of `exec` whose instruction has no meaning yet; no arm is left so. Safe. -/
  | notModelled (mnemonic : String)
  /-- Raised by the seven unstable opcodes under `UNSTABLE_OPCODES = refuse` (R332). Safe. -/
  | unstableOpcode (op : Byte)
  /-- Raised by console construction for a cartridge outside R102. Safe. -/
  | unsupportedCartridge
  deriving DecidableEq, Repr

/-- What one step of this machine answers. -/
abbrev Outcome := Host.Outcome State Fault Refusal

/-- P after reset, `Unpack(0x24)` (R550): only I is set. -/
def Status.reset : Status :=
  { c := false, z := false, i := true, d := false, v := false, n := false }

/-- PPUCTRL after reset (R551). -/
def Ctrl.reset : Ctrl :=
  { nt := 0, inc := false, sprTable := false, bgTable := false, sprSize := false, master := false, nmiOutput := false }

/-- PPUMASK after reset (R551). -/
def Mask.reset : Mask :=
  { gray := false, bgLeft := false, sprLeft := false, bg := false, spr := false, emR := false, emG := false, emB := false }

/-- The background pipeline after reset (R551). -/
def Background.reset : Background := { nt := 0, attr := 0, lo := 0, hi := 0, tiles := 0 }

/-- A sprite slot after reset: zero, never read while `spr.count` is 0 (R63; DESIGN CHOICE, log entry 5). -/
def SpriteSlot.reset : SpriteSlot := { pattern := 0, xpos := 0, prio := false, index := 0 }

/-- The PPU after reset (R551), over the given power-on contents of OAM, palette RAM and CIRAM (R553). -/
def Ppu.resetWith (oam : Memory) (pal : Cells 6) (ciram : Memory) : Ppu :=
  { v := 0, t := 0, x := 0, w := false, ctrl := Ctrl.reset, mask := Mask.reset,
    vblank := false, spr0Hit := false, sprOverflow := false, latch := 0, oamAddr := 0,
    oam := oam, pal := pal, ciram := ciram, buffer := 0,
    dot := 340, scanline := 240, odd := false, frame := 0, nmiPrevious := false, nmiDelay := 0,
    bg := Background.reset, sprCount := 0, sprites := Vector.replicate 8 SpriteSlot.reset }

/-- The four streams after reset (R554). -/
def Outputs.reset : Outputs := { pixels := [], apuWrites := [], controllerWrites := [], oracleReads := [] }

/-- The cartridge `State.reset` holds: mapper 0, one 16 KB PRG bank with nothing listed, 8 KB of CHR-RAM, horizontal
mirroring, header byte 8 zero. The spec gives `CART` no default (DESIGN CHOICE, log entry 6). -/
def Cart.atReset : Cart :=
  { prgRom := [], prgBanks := 1, chr := [], chrBanks := 0, mirroring := .horizontal, mapper := .nrom, prgRamUnits := 0 }

/-- The machine right after reset (R550 to R554): SP 0xFD, P 0x24, PC the word at 0xFFFC, which is 0x0000 in the empty
PRG-ROM of `Cart.atReset`, `cycles` the default `CYCLE0` = 7. A, X and Y and the memories hold zero, one value that
their draws admit (DESIGN CHOICE, log entries 3 and 5). -/
def State.reset : State :=
  { a := 0, x := 0, y := 0, sp := 0xFD, pc := 0x0000, p := Status.reset,
    cycles := 7, stall := 0, nmiPending := false,
    ram := [], prgRam := [], bankSel := 0, cart := Cart.atReset,
    ppu := Ppu.resetWith [] [] [], out := Outputs.reset,
    irqInputs := [], draws := 0, params := Params.atReset }

end Sys2Proof.Machine
end

