-- ==== Sys2Proof/Machine/Flags.lean ====
section
/-! DEFINITION. The CPU register writes and every flag computation: packing P (R44), SetZN (R18), the adder (R231), the
compare (R232), the shifts and rotates (R233), and the flag rules of BIT (R243), ANC (R318), ARR (R320) and AXS (R321). -/

namespace Sys2Proof.Machine

/-! ## Register writes -/

/-- `A <- v`. -/
def State.setA (s : State) (v : Byte) : State := { s with a := v }

/-- `X <- v`. -/
def State.setX (s : State) (v : Byte) : State := { s with x := v }

/-- `Y <- v`. -/
def State.setY (s : State) (v : Byte) : State := { s with y := v }

/-- `SP <- v`. -/
def State.setSp (s : State) (v : Byte) : State := { s with sp := v }

/-- `PC <- v`. -/
def State.setPc (s : State) (v : Word) : State := { s with pc := v }

/-- The six stored bits of P, all at once. -/
def State.setP (s : State) (p : Status) : State := { s with p := p }

/-- `P.C <- b`. -/
def State.setC (s : State) (b : Bool) : State := { s with p := { s.p with c := b } }

/-- `P.I <- b`. -/
def State.setI (s : State) (b : Bool) : State := { s with p := { s.p with i := b } }

/-- `P.D <- b`. -/
def State.setD (s : State) (b : Bool) : State := { s with p := { s.p with d := b } }

/-- `P.V <- b`. -/
def State.setV (s : State) (b : Bool) : State := { s with p := { s.p with v := b } }

/-- `SetZN(r)` (R18). -/
def State.setZN (s : State) (r : Byte) : State :=
  { s with p := { s.p with z := r == 0, n := r.getLsbD 7 } }

/-- The frame's part of R165 before the handler: `PC <- u16(pc + size)` and `cycles <- cycles + c`. -/
def State.advance (s : State) (size c : Nat) : State :=
  { s with pc := s.pc + BitVec.ofNat 16 size, cycles := s.cycles + c }

/-- `cycles <- cycles + c` (R165, R509). -/
def State.addCycles (s : State) (c : Nat) : State := { s with cycles := s.cycles + c }

/-! ## P as a byte -/

/-- The bit `b` at position `k` of a byte. -/
def bitAt (b : Bool) (k : Nat) : Byte := if b then 1#8 <<< k else 0

/-- `Pack(P)` (R44) with bit 4 forced to `brk` (D7): N V 1 B D I Z C. -/
def Status.pack (p : Status) (brk : Bool) : Byte :=
  bitAt p.n 7 ||| bitAt p.v 6 ||| bitAt true 5 ||| bitAt brk 4 ||| bitAt p.d 3 ||| bitAt p.i 2 ||| bitAt p.z 1 ||| bitAt p.c 0

/-- `Unpack(b)` (R44): bits 4 and 5 are ignored. -/
def Status.unpack (b : Byte) : Status :=
  { c := b.getLsbD 0, z := b.getLsbD 1, i := b.getLsbD 2, d := b.getLsbD 3, v := b.getLsbD 6, n := b.getLsbD 7 }

/-! ## The adder and the compare -/

/-- The exact sum of R231, 0 to 511. -/
def addSum (a b : Byte) (cin : Bool) : Nat := a.toNat + b.toNat + cin.toNat

/-- The 8-bit result of `AddC` (R231). -/
def addResult (a b : Byte) (cin : Bool) : Byte := BitVec.ofNat 8 (addSum a b cin)

/-- The carry of `AddC` (R231). -/
def addCarry (a b : Byte) (cin : Bool) : Bool := decide (0xFF < addSum a b cin)

/-- The overflow of `AddC` (R231): a and b have the same sign and the result the other. -/
def addOverflow (a b : Byte) (cin : Bool) : Bool :=
  let r := addResult a b cin
  (a ^^^ r) &&& (b ^^^ r) &&& 0x80 != 0

/-- `A <- AddC(A, m, P.C); SetZN(A)` (R231, R235): binary whatever D holds (R234). -/
def State.addIntoA (s : State) (m : Byte) : State :=
  let r := addResult s.a m s.p.c
  { s with
    a := r
    p := { s.p with c := addCarry s.a m s.p.c, v := addOverflow s.a m s.p.c, z := r == 0, n := r.getLsbD 7 } }

/-- `A <- AddC(A, m ^ 0xFF, P.C); SetZN(A)` (R236). -/
def State.subFromA (s : State) (m : Byte) : State := s.addIntoA (m ^^^ 0xFF)

/-- `Compare(r, m)` (R232): V is unchanged. -/
def State.compare (s : State) (r m : Byte) : State :=
  { s with p := { s.p with c := decide (m.toNat ≤ r.toNat), z := r - m == 0, n := (r - m).getLsbD 7 } }

/-! ## Shifts and rotates -/

/-- `Asl(v)` (R233). -/
def asl (v : Byte) (s : State) : Byte × State := (v <<< 1, s.setC (v.getLsbD 7))

/-- `Lsr(v)` (R233). -/
def lsr (v : Byte) (s : State) : Byte × State := (v >>> 1, s.setC (v.getLsbD 0))

/-- `Rol(v)` (R233). -/
def rol (v : Byte) (s : State) : Byte × State := ((v <<< 1) ||| bitAt s.p.c 0, s.setC (v.getLsbD 7))

/-- `Ror(v)` (R233). -/
def ror (v : Byte) (s : State) : Byte × State := ((v >>> 1) ||| bitAt s.p.c 7, s.setC (v.getLsbD 0))

/-! ## Flag rules of single instructions -/

/-- BIT (R243): Z from `A & m`, V and N from bits 6 and 7 of m. -/
def State.bitTest (s : State) (m : Byte) : State :=
  { s with p := { s.p with z := s.a &&& m == 0, v := m.getLsbD 6, n := m.getLsbD 7 } }

end Sys2Proof.Machine
end

