-- ==== Sys2Proof/Machine/Memory.lean ====
section
/-! DEFINITION. The storage arrays of the CORE: reading and writing one cell of a list in canonical form. Every array of
the machine (RAM, PRG-RAM, PRG-ROM, CHR, CIRAM, OAM, palette) is read and written through these two operations, so a read
returns the last value written to that cell (R120). -/

namespace Sys2Proof.Machine

/-- The cell at index `a`; zero where nothing is listed (log entry 3). -/
def Cells.read {w : Nat} (m : Cells w) (a : Nat) : BitVec w :=
  match m with
  | [] => 0
  | (k, u) :: rest => if k = a then u else Cells.read rest a

/-- `m` with cell `a` holding `v`, in canonical form: a zero is not listed. -/
def Cells.write {w : Nat} (m : Cells w) (a : Nat) (v : BitVec w) : Cells w :=
  match m with
  | [] => if v = 0 then [] else [(a, v)]
  | (k, u) :: rest =>
    if a < k then (if v = 0 then (k, u) :: rest else (a, v) :: (k, u) :: rest)
    else if a = k then (if v = 0 then rest else (a, v) :: rest)
    else (k, u) :: Cells.write rest a v

/-- The canonical form from index `lo` on: indices rise strictly and no listed cell is zero. -/
def Cells.wfFrom {w : Nat} (lo : Nat) (m : Cells w) : Bool :=
  match m with
  | [] => true
  | (k, u) :: rest => decide (lo ≤ k) && decide (u ≠ 0) && Cells.wfFrom (k + 1) rest

/-- The canonical form of a cell list. -/
def Cells.wf {w : Nat} (m : Cells w) : Bool := Cells.wfFrom 0 m

/-- Every listed index is below `n`, the size of the array. -/
def Cells.below {w : Nat} (n : Nat) (m : Cells w) : Bool := m.all fun cell => decide (cell.1 < n)

/-- The canonical form of a byte memory. -/
abbrev Memory.wf (m : Memory) : Bool := Cells.wf m

end Sys2Proof.Machine
end

