-- ==== Sys2Proof/Machine/Ppu.lean ====
section
/-! DEFINITION. The PPU engine: its bus below the palette (R110 to R116), the NMI edge detector (R457), the background
pipeline and scroll updates (R424 to R434), sprites (R440 to R442), pixel composition (R445 to R452), and one tick of the
dot clock (R420 to R423, R455, R456). The functions work on the PPU and the cartridge; `tick` puts the result back into
the state. -/

namespace Sys2Proof.Machine

/-! ## The PPU bus -/

/-- `chr_is_ram` (R66): no CHR-ROM bank means CHR-RAM. -/
def Cart.chrIsRam (c : Cart) : Bool := c.chrBanks == 0

/-- The size of the CHR array (R66): `8192 * m`, or 8,192 bytes of CHR-RAM. A PPU address below 0x2000 is always inside it,
so the CHR case of R103 does not arise (log entry 4). -/
def Cart.chrSize (c : Cart) : Nat := 8192 * max 1 c.chrBanks

/-- The size of PRG-RAM (R65): `8192 * max(1, prg_ram_units)`. A CPU address of 0x6000-0x7FFF is always inside it, so the
PRG-RAM case of R103 does not arise (log entry 4). -/
def Cart.prgRamSize (c : Cart) : Nat := 8192 * max 1 c.prgRamUnits

/-- `Mirror(a)` (R113, R116): the CIRAM index of a nametable address 0x2000-0x3EFF. -/
def mirrorIndex (mode : Mirroring) (a : Nat) : Nat :=
  let rel := (a - 0x2000) % 0x1000
  let table := rel / 0x400
  let off := rel % 0x400
  let phys := match mode with
    | .horizontal => table / 2
    | .vertical => table % 2
  phys * 1024 + off

/-- `PalIndex(a)` (R114): the palette entry of an address, with 16, 20, 24 and 28 aliased to 0, 4, 8 and 12. -/
def palIndex (a : Nat) : Nat :=
  let i := a % 32
  if i = 16 ∨ i = 20 ∨ i = 24 ∨ i = 28 then i - 16 else i

/-- `PpuRead(a)` below 0x3F00 (R110): pattern tables in CHR (R101), nametables in CIRAM. The address is already reduced
to 14 bits (D19). -/
def tableRead (c : Cart) (p : Ppu) (a : BitVec 14) : Byte :=
  if a.toNat ≤ 0x1FFF then c.chr.read a.toNat
  else p.ciram.read (mirrorIndex c.mirroring a.toNat)

/-! ## The NMI edge detector -/

/-- `NmiChange()` (R457), with `NMI_DELAY_DOTS` = `delay`. -/
def Ppu.nmiChange (delay : Nat) (p : Ppu) : Ppu :=
  let nmi := p.ctrl.nmiOutput && p.vblank
  { p with
    nmiDelay := if nmi && !p.nmiPrevious then delay else p.nmiDelay
    nmiPrevious := nmi }

/-- `SetVblank()` (R455). -/
def Ppu.setVblank (delay : Nat) (p : Ppu) : Ppu :=
  Ppu.nmiChange delay { p with vblank := true }

/-- `ClearFlags()` (R456). -/
def Ppu.clearFlags (delay : Nat) (p : Ppu) : Ppu :=
  { Ppu.nmiChange delay { p with vblank := false } with spr0Hit := false, sprOverflow := false }

/-! ## Scroll updates -/

/-- `IncX()` on `v` (R431). -/
def incX (v : BitVec 15) : BitVec 15 :=
  if v &&& 0x001F = 31 then (v &&& ~~~0x001F#15) ^^^ 0x0400 else v + 1

/-- `IncY()` on `v` (R432). -/
def incY (v : BitVec 15) : BitVec 15 :=
  if (v >>> 12).toNat < 7 then v + 0x1000
  else
    let u := v &&& ~~~0x7000#15
    let y := (u >>> 5) &&& 0x1F
    if y = 29 then (u ^^^ 0x0800) &&& ~~~0x03E0#15
    else if y = 31 then u &&& ~~~0x03E0#15
    else (u &&& ~~~0x03E0#15) ||| ((y + 1) <<< 5)

/-- `CopyX()` on `v` and `t` (R433). -/
def copyX (v t : BitVec 15) : BitVec 15 := (v &&& 0x7BE0) ||| (t &&& 0x041F)

/-- `CopyY()` on `v` and `t` (R434). -/
def copyY (v t : BitVec 15) : BitVec 15 := (v &&& 0x041F) ||| (t &&& 0x7BE0)

/-! ## Background fetches -/

/-- Eight 4-bit pixels, pixel 0 (leftmost) in the highest nibble (R429, R441). -/
def packPixels (pixel : Nat → BitVec 4) : BitVec 32 :=
  (List.range 8).foldl (fun data i => (data <<< 4) ||| (pixel i).setWidth 32) 0

/-- The pattern-table address of row `row` of `tile` (R112): `0x1000 * table + tile * 16 + row`. -/
def patternAddr (table : Bool) (tile : Byte) (row : BitVec 14) : BitVec 14 :=
  (if table then 0x1000 else 0) + tile.setWidth 14 * 16 + row

/-- One bit of a pattern plane, as a pixel's low bit. -/
def planeBit (plane : Byte) (b : Nat) : BitVec 4 := if plane.getLsbD b then 1 else 0

/-- The nametable address of `FetchNT()` (R425). -/
def nametableAddr (v : BitVec 15) : BitVec 14 := 0x2000 ||| (v &&& 0x0FFF).setWidth 14

/-- The attribute address of `FetchAT()` (R426). -/
def attributeAddr (v : BitVec 15) : BitVec 14 :=
  (0x23C0#15 ||| (v &&& 0x0C00#15) ||| ((v >>> 4) &&& 0x38#15) ||| ((v >>> 2) &&& 0x07#15)).setWidth 14

/-- The quadrant shift of `FetchAT()` (R426). -/
def attributeShift (v : BitVec 15) : Nat := (((v >>> 4) &&& 4) ||| (v &&& 2)).toNat

/-- Fine Y, bits 14-12 of `v` (R50). -/
def fineY (v : BitVec 15) : BitVec 14 := (v >>> 12).setWidth 14

/-- `FetchNT()` (R425). -/
def fetchNT (c : Cart) (p : Ppu) : Ppu :=
  { p with bg := { p.bg with nt := tableRead c p (nametableAddr p.v) } }

/-- `FetchAT()` (R426). -/
def fetchAT (c : Cart) (p : Ppu) : Ppu :=
  let quadrant := (tableRead c p (attributeAddr p.v) >>> attributeShift p.v) &&& 3
  { p with bg := { p.bg with attr := (quadrant <<< 2).setWidth 4 } }

/-- `FetchLo()` (R427). -/
def fetchLo (c : Cart) (p : Ppu) : Ppu :=
  { p with bg := { p.bg with lo := tableRead c p (patternAddr p.ctrl.bgTable p.bg.nt (fineY p.v)) } }

/-- `FetchHi()` (R428). -/
def fetchHi (c : Cart) (p : Ppu) : Ppu :=
  { p with bg := { p.bg with hi := tableRead c p (patternAddr p.ctrl.bgTable p.bg.nt (fineY p.v + 8)) } }

/-- Pixel `i` of the tile just fetched (R429). -/
def Background.pixel (b : Background) (i : Nat) : BitVec 4 :=
  b.attr ||| (planeBit b.hi (7 - i) <<< 1) ||| planeBit b.lo (7 - i)

/-- `StoreTile()` (R429). -/
def storeTile (p : Ppu) : Ppu :=
  { p with bg := { p.bg with tiles := p.bg.tiles ||| (packPixels p.bg.pixel).setWidth 64 } }

/-- The shift of a fetch dot (R430). -/
def shiftTiles (p : Ppu) : Ppu := { p with bg := { p.bg with tiles := p.bg.tiles <<< 4 } }

/-- The shift and the fetch or store of one fetch dot (R423, R424). -/
def fetchWork (c : Cart) (p : Ppu) : Ppu :=
  let q := shiftTiles p
  if p.dot % 8 = 1 then fetchNT c q
  else if p.dot % 8 = 3 then fetchAT c q
  else if p.dot % 8 = 5 then fetchLo c q
  else if p.dot % 8 = 7 then fetchHi c q
  else if p.dot % 8 = 0 then storeTile q
  else q

/-! ## Sprites -/

/-- Byte `k` (0 to 3) of sprite `i` in OAM (R56). -/
def oamByte (p : Ppu) (i k : Nat) : Byte := p.oam.read (4 * i + k)

/-- Sprite height (R440). -/
def spriteHeight (p : Ppu) : Nat := if p.ctrl.sprSize then 16 else 8

/-- Sprite `i` covers the current line: `y ≤ scanline < y + height` (R440, C12). -/
def spriteInRange (p : Ppu) (i : Nat) : Bool :=
  decide ((oamByte p i 0).toNat ≤ p.scanline) && decide (p.scanline < (oamByte p i 0).toNat + spriteHeight p)

/-- The address of the low pattern byte of row `row` of sprite `i` (R441). -/
def spriteAddr (p : Ppu) (i row : Nat) : BitVec 14 :=
  let tile := oamByte p i 1
  let flip := (oamByte p i 2).getLsbD 7
  if p.ctrl.sprSize then
    let r := if flip then 15 - row else row
    let top := tile &&& 0xFE
    if 7 < r then patternAddr (tile.getLsbD 0) (top + 1) (BitVec.ofNat 14 (r - 8))
    else patternAddr (tile.getLsbD 0) top (BitVec.ofNat 14 r)
  else
    let r := if flip then 7 - row else row
    patternAddr p.ctrl.sprTable tile (BitVec.ofNat 14 r)

/-- `SpritePattern(i, row)` (R441). -/
def spritePattern (c : Cart) (p : Ppu) (i row : Nat) : BitVec 32 :=
  let attr := oamByte p i 2
  let addr := spriteAddr p i row
  let lo := tableRead c p addr
  let hi := tableRead c p (addr + 8)
  packPixels fun k =>
    let b := if attr.getLsbD 6 then k else 7 - k
    ((attr &&& 3).setWidth 4 <<< 2) ||| (planeBit hi b <<< 1) ||| planeBit lo b

/-- The slot that sprite `i` fills on the current line (R440). -/
def spriteSlot (c : Cart) (p : Ppu) (i : Nat) : SpriteSlot :=
  { pattern := spritePattern c p i (p.scanline - (oamByte p i 0).toNat)
    xpos := oamByte p i 3
    prio := (oamByte p i 2).getLsbD 5
    index := BitVec.ofNat 6 i }

/-- The sprites in range on the current line, in OAM order (R440). -/
def spritesInRange (p : Ppu) : List Nat := (List.range 64).filter (spriteInRange p)

/-- `EvaluateSprites()` (R440): the first eight sprites in range fill the slots; more than eight set the overflow
flag; a slot no sprite fills keeps its contents. -/
def evaluateSprites (c : Cart) (p : Ppu) : Ppu :=
  let hits := spritesInRange p
  { p with
    sprites := Vector.ofFn fun k => match hits[k.val]? with
      | some i => spriteSlot c p i
      | none => p.sprites[k]
    sprCount := min hits.length 8
    sprOverflow := p.sprOverflow || decide (8 < hits.length) }

/-! ## Pixel composition -/

/-- A colour number is opaque when its pattern value (bits 1-0) is not zero (R446, R448). -/
def opaquePixel (c : BitVec 4) : Bool := c &&& 3 != 0

/-- `BgPixel()` (R445). -/
def bgPixel (p : Ppu) : BitVec 4 :=
  if p.mask.bg then ((p.bg.tiles >>> 32) >>> ((7 - p.x.toNat) * 4)).setWidth 4 else 0

/-- The colour number that `slot` shows at column `px`; transparent (0) outside its eight pixels (R446). -/
def slotPixel (slot : SpriteSlot) (px : Nat) : BitVec 4 :=
  if slot.xpos.toNat ≤ px ∧ px - slot.xpos.toNat ≤ 7 then
    (slot.pattern >>> ((7 - (px - slot.xpos.toNat)) * 4)).setWidth 4
  else 0

/-- `SprPixel()` (R446): the first slot whose pixel at this dot is opaque. -/
def sprPixel (p : Ppu) : Option (SpriteSlot × BitVec 4) :=
  if p.mask.spr then
    (List.range p.sprCount).findSome? fun k => match p.sprites[k]? with
      | some slot => if opaquePixel (slotPixel slot (p.dot - 1)) then some (slot, slotPixel slot (p.dot - 1)) else none
      | none => none
  else none

/-- The background pixel under the left-column mask (R447). -/
def maskedBg (p : Ppu) : BitVec 4 :=
  if p.dot - 1 < 8 ∧ p.mask.bgLeft = false then 0 else bgPixel p

/-- The sprite pixel under the left-column mask (R447). -/
def maskedSpr (p : Ppu) : Option (SpriteSlot × BitVec 4) :=
  if p.dot - 1 < 8 ∧ p.mask.sprLeft = false then none else sprPixel p

/-- The colour number of R448 from the background pixel and the winning sprite. -/
def composeColour (bg : BitVec 4) (spr : Option (SpriteSlot × BitVec 4)) : BitVec 5 :=
  match spr with
  | none => if opaquePixel bg then bg.setWidth 5 else 0
  | some (slot, sp) =>
    if opaquePixel bg ∧ slot.prio = true then bg.setWidth 5 else sp.setWidth 5 ||| 0x10

/-- The sprite-zero test of R448 and R449: both pixels opaque, the winner is OAM sprite 0, and not the last column. -/
def spriteZeroHit (bg : BitVec 4) (spr : Option (SpriteSlot × BitVec 4)) (px : Nat) : Bool :=
  match spr with
  | none => false
  | some (slot, _) => opaquePixel bg && (slot.index == 0) && decide (px < 255)

/-- `Output(px, py, c)` (R450): the palette entry, ANDed with 0x30 under grayscale. -/
def outputPixel (p : Ppu) (c : BitVec 5) : Pixel :=
  let entry := p.pal.read (palIndex (0x3F00 + c.toNat))
  { x := p.dot - 1, y := p.scanline, colour := if p.mask.gray then entry &&& 0x30 else entry }

/-- The pixel of `RenderPixel()` (R448). -/
def renderedPixel (p : Ppu) : Pixel := outputPixel p (composeColour (maskedBg p) (maskedSpr p))

/-- The sprite-zero flag after `RenderPixel()` (R448, R449). -/
def renderFlags (p : Ppu) : Ppu :=
  { p with spr0Hit := p.spr0Hit || spriteZeroHit (maskedBg p) (maskedSpr p) (p.dot - 1) }

/-! ## The dot clock -/

/-- `Rendering()` (R422). -/
def Ppu.rendering (p : Ppu) : Bool := p.mask.bg || p.mask.spr

/-- A visible line (R423). -/
def Ppu.visible (p : Ppu) : Bool := decide (p.scanline < 240)

/-- The pre-render line (R423). -/
def Ppu.pre (p : Ppu) : Bool := p.scanline == 261

/-- A line on which the pipeline runs (R423). -/
def Ppu.renderLine (p : Ppu) : Bool := p.visible || p.pre

/-- A dot on which the pipeline fetches (R423). -/
def Ppu.fetchDot (p : Ppu) : Bool :=
  (decide (1 ≤ p.dot) && decide (p.dot ≤ 256)) || (decide (321 ≤ p.dot) && decide (p.dot ≤ 336))

/-- A visible dot, one that emits a pixel (R423, R452). -/
def Ppu.pixelDot (p : Ppu) : Bool := p.visible && decide (1 ≤ p.dot) && decide (p.dot ≤ 256)

/-- First part of a tick (R420): the NMI countdown, and whether it passes the NMI to the CPU. -/
def Ppu.countdown (p : Ppu) : Ppu := { p with nmiDelay := p.nmiDelay - 1 }

/-- The countdown ends in this tick with the NMI condition holding (R420, R458). -/
def Ppu.fires (p : Ppu) : Bool := p.nmiDelay == 1 && p.ctrl.nmiOutput && p.vblank

/-- The first dot of the next frame (R421). -/
def Ppu.nextFrame (p : Ppu) : Ppu := { p with dot := 0, scanline := 0, odd := !p.odd, frame := p.frame + 1 }

/-- Second part of a tick (R421): the dot advance, with the skipped dot of an odd frame. -/
def Ppu.advance (p : Ppu) : Ppu :=
  if p.rendering ∧ p.odd = true ∧ p.scanline = 261 ∧ p.dot = 339 then p.nextFrame
  else if p.dot + 1 > 340 then
    (if p.scanline + 1 > 261 then p.nextFrame else { p with dot := 0, scanline := p.scanline + 1 })
  else { p with dot := p.dot + 1 }

/-- The scroll updates of a dot with rendering enabled, in the order of R423: CopyY, IncX, IncY, CopyX. -/
def scrollWork (p : Ppu) : Ppu :=
  let v1 := if p.pre ∧ 280 ≤ p.dot ∧ p.dot ≤ 304 then copyY p.v p.t else p.v
  let v2 := if p.renderLine ∧ p.fetchDot ∧ p.dot % 8 = 0 then incX v1 else v1
  let v3 := if p.renderLine ∧ p.dot = 256 then incY v2 else v2
  let v4 := if p.renderLine ∧ p.dot = 257 then copyX v3 p.t else v3
  { p with v := v4 }

/-- The sprite work of a dot with rendering enabled (R423, R440, R442). -/
def spriteWork (c : Cart) (p : Ppu) : Ppu :=
  if p.dot = 257 then (if p.visible then evaluateSprites c p else { p with sprCount := 0 }) else p

/-- The work of a dot with rendering enabled (R423): pixel, shift and fetch, scroll, sprites. -/
def renderWork (c : Cart) (p : Ppu) : Ppu :=
  let p1 := if p.pixelDot then renderFlags p else p
  let p2 := if p1.renderLine ∧ p1.fetchDot then fetchWork c p1 else p1
  spriteWork c (scrollWork p2)

/-- The vblank events of a dot (R423, R455, R456). -/
def vblankWork (delay : Nat) (p : Ppu) : Ppu :=
  let p1 := if p.scanline = 241 ∧ p.dot = 1 then p.setVblank delay else p
  if p1.pre ∧ p1.dot = 1 then p1.clearFlags delay else p1

/-- Third part of a tick (R423): the work of the dot reached. -/
def dotWork (c : Cart) (delay : Nat) (p : Ppu) : Ppu :=
  vblankWork delay (if p.rendering then renderWork c p else p)

/-- The pixel a dot emits (R448, R451, R452): none outside the visible dots; the backdrop with rendering disabled. -/
def dotPixel (p : Ppu) : Option Pixel :=
  if p.pixelDot then some (if p.rendering then renderedPixel p else outputPixel p 0) else none

/-- `PpuTick()` (R420, R421, R423): one dot. The NMI of R458 sets the CPU's latch; the pixel goes to the frame sink. -/
def tick (s : State) : State :=
  let p := s.ppu.countdown.advance
  { s with
    ppu := dotWork s.cart s.params.nmiDelayDots p
    nmiPending := s.nmiPending || s.ppu.fires
    out := { s.out with pixels := s.out.pixels ++ (dotPixel p).toList } }

/-- `n` ticks (R520). -/
def runDots : Nat → State → State
  | 0, s => s
  | n + 1, s => runDots n (tick s)

end Sys2Proof.Machine
end

