-- ==== Sys2Proof/Machine/PpuRegs.lean ====
section
/-! DEFINITION. The CPU-visible PPU registers (R400 to R415): what a CPU read and a CPU write of each does, over the PPU
bus with its palette (R110, R111, R115). -/

namespace Sys2Proof.Machine

/-- `draw()` (R19): a free value, and the state that has used it. -/
def drawByte (s : State) : Byte × State := (Config.draw s.draws, { s with draws := s.draws + 1 })

/-- The state with its PPU replaced. -/
def State.setPpu (s : State) (p : Ppu) : State := { s with ppu := p }

/-! ## The PPU bus -/

/-- `PpuRead(a)` (R110), `a` reduced to 14 bits: a palette read gives the six stored bits under two drawn bits (R115). -/
def ppuBusRead (a : BitVec 14) (s : State) : Byte × State :=
  if a.toNat < 0x3F00 then (tableRead s.cart s.ppu a, s)
  else
    let (d, t) := drawByte s
    ((d &&& 0xC0) ||| (s.ppu.pal.read (palIndex a.toNat)).setWidth 8, t)

/-- `PpuWrite(a, v)` (R111), `a` reduced to 14 bits: CHR only when it is RAM (R101), palette entries keep six bits. -/
def ppuBusWrite (a : BitVec 14) (v : Byte) (s : State) : State :=
  if a.toNat ≤ 0x1FFF then
    (if s.cart.chrIsRam then { s with cart := { s.cart with chr := s.cart.chr.write a.toNat v } } else s)
  else if a.toNat ≤ 0x3EFF then
    s.setPpu { s.ppu with ciram := s.ppu.ciram.write (mirrorIndex s.cart.mirroring a.toNat) v }
  else s.setPpu { s.ppu with pal := s.ppu.pal.write (palIndex a.toNat) (v.setWidth 6) }

/-- The PPU-bus address of a PPUDATA access, `v & 0x3FFF` (R411, R412). -/
def Ppu.dataAddr (p : Ppu) : BitVec 14 := p.v.setWidth 14

/-- The step of `v` after a PPUDATA access, modulo 2^15 (R411). -/
def Ppu.stepV (p : Ppu) : Ppu := { p with v := p.v + (if p.ctrl.inc then 32 else 1) }

/-! ## Register reads -/

/-- The byte a PPUSTATUS read gives (R403). -/
def Ppu.statusByte (p : Ppu) : Byte :=
  (p.latch &&& 0x1F) ||| (if p.sprOverflow then 0x20 else 0) ||| (if p.spr0Hit then 0x40 else 0) |||
    (if p.vblank then 0x80 else 0)

/-- PPUSTATUS read (R403): vblank and `w` are cleared, and the NMI condition is evaluated again. -/
def readStatus (s : State) : Byte × State :=
  (s.ppu.statusByte,
    s.setPpu { Ppu.nmiChange s.params.nmiDelayDots { s.ppu with vblank := false } with w := false })

/-- OAMDATA read (R405): attribute bytes read with bits 4-2 zero; the cursor stays. -/
def readOamData (s : State) : Byte × State :=
  let r := s.ppu.oam.read s.ppu.oamAddr.toNat
  (if s.ppu.oamAddr &&& 3 = 2 then r &&& 0xE3 else r, s)

/-- PPUDATA read (R411): buffered below the palette; a palette read is not delayed and refills the buffer from the
nametable byte below it. -/
def readData (s : State) : Byte × State :=
  let a := s.ppu.dataAddr
  if a.toNat < 0x3F00 then
    let (b, t) := ppuBusRead a s
    (s.ppu.buffer, t.setPpu (Ppu.stepV { t.ppu with buffer := b }))
  else
    let (r, t) := ppuBusRead a s
    let (b, u) := ppuBusRead (a - 0x1000) t
    (r, u.setPpu (Ppu.stepV { u.ppu with buffer := b }))

/-- A CPU read of PPU register `n` (R400): the write-only registers give a draw and change no state (R413). -/
def readPpuReg (n : Nat) (s : State) : Byte × State :=
  if n = 2 then readStatus s
  else if n = 4 then readOamData s
  else if n = 7 then readData s
  else drawByte s

/-! ## Register writes -/

/-- PPUCTRL's fields from a byte (R52, R401). -/
def Ctrl.ofByte (d : Byte) : Ctrl :=
  { nt := d.setWidth 2, inc := d.getLsbD 2, sprTable := d.getLsbD 3, bgTable := d.getLsbD 4,
    sprSize := d.getLsbD 5, master := d.getLsbD 6, nmiOutput := d.getLsbD 7 }

/-- PPUMASK's fields from a byte (R53, R402). -/
def Mask.ofByte (d : Byte) : Mask :=
  { gray := d.getLsbD 0, bgLeft := d.getLsbD 1, sprLeft := d.getLsbD 2, bg := d.getLsbD 3, spr := d.getLsbD 4,
    emR := d.getLsbD 5, emG := d.getLsbD 6, emB := d.getLsbD 7 }

/-- PPUCTRL write (R401): the fields, `t`'s nametable bits, and the NMI condition evaluated again. -/
def Ppu.writeCtrl (delay : Nat) (d : Byte) (p : Ppu) : Ppu :=
  Ppu.nmiChange delay
    { p with ctrl := Ctrl.ofByte d, t := (p.t &&& 0x73FF#15) ||| ((d &&& 3).setWidth 15 <<< 10) }

/-- PPUMASK write (R402). -/
def Ppu.writeMask (d : Byte) (p : Ppu) : Ppu := { p with mask := Mask.ofByte d }

/-- OAMDATA write (R406), also one byte of an OAM DMA (R416): store, then step the cursor. -/
def Ppu.writeOamData (d : Byte) (p : Ppu) : Ppu :=
  { p with oam := p.oam.write p.oamAddr.toNat d, oamAddr := p.oamAddr + 1 }

/-- PPUSCROLL write: first half (R407) when `w` is 0, second half (R408) when it is 1. -/
def Ppu.writeScroll (d : Byte) (p : Ppu) : Ppu :=
  if p.w then
    { p with
      t := (p.t &&& 0x0C1F#15) ||| ((d &&& 7).setWidth 15 <<< 12) ||| ((d >>> 3).setWidth 15 <<< 5)
      w := false }
  else
    { p with t := (p.t &&& 0x7FE0#15) ||| (d >>> 3).setWidth 15, x := d.setWidth 3, w := true }

/-- PPUADDR write: high half (R409) when `w` is 0, low half and the copy to `v` (R410) when it is 1. -/
def Ppu.writeAddr (d : Byte) (p : Ppu) : Ppu :=
  if p.w then
    let t := (p.t &&& 0x7F00#15) ||| d.setWidth 15
    { p with t := t, v := t, w := false }
  else { p with t := (p.t &&& 0x00FF#15) ||| ((d &&& 0x3F).setWidth 15 <<< 8), w := true }

/-- PPUDATA write (R412). -/
def writeData (d : Byte) (s : State) : State :=
  let t := ppuBusWrite s.ppu.dataAddr d s
  t.setPpu t.ppu.stepV

/-- The latch update of every PPU register write (R415). -/
def State.setLatch (s : State) (d : Byte) : State := s.setPpu { s.ppu with latch := d }

/-- A CPU write of `d` to PPU register `n` (R400): the latch first (R415), then the register; PPUSTATUS has no other
effect (R414). -/
def writePpuReg (n : Nat) (d : Byte) (s : State) : State :=
  let t := s.setLatch d
  if n = 0 then t.setPpu (t.ppu.writeCtrl t.params.nmiDelayDots d)
  else if n = 1 then t.setPpu (t.ppu.writeMask d)
  else if n = 2 then t
  else if n = 3 then t.setPpu { t.ppu with oamAddr := d }
  else if n = 4 then t.setPpu (t.ppu.writeOamData d)
  else if n = 5 then t.setPpu (t.ppu.writeScroll d)
  else if n = 6 then t.setPpu (t.ppu.writeAddr d)
  else writeData d t

end Sys2Proof.Machine
end

