-- ==== Sys2Proof/Machine/Ops.lean ====
section
/-! DEFINITION. The shared operations over the CPU bus: MemRead and MemWrite (R87, R88), the mapper (R99, R100), OAM DMA
(R416, R417), the stack (R17), taking an interrupt or BRK (R282, R509) and returning from one (R283). -/

namespace Sys2Proof.Machine

/-! ## Operations that can fault -/

/-- The result of an operation that can fault. A fault holds the state it was raised in, with the writes made before it
(R500, R503). -/
inductive Res (α : Type) where
  | ok (value : α) (s : State)
  | stop (f : Fault)
  deriving Repr

/-- One operation after another; the first fault ends the step (R503). -/
def Res.andThen {α β : Type} (r : Res α) (f : α → State → Res β) : Res β :=
  match r with
  | .ok v s => f v s
  | .stop e => .stop e

/-- The outcome of a step whose operations are done (R19): a fault keeps its state (R500). -/
def Res.toOutcome (r : Res Unit) : Outcome :=
  match r with
  | .ok _ s => .next s
  | .stop e => .fault e

/-- The state a fault keeps for inspection (R500). -/
def Fault.kept (f : Fault) : State :=
  match f with
  | .notImplemented _ s => s
  | .cartridgeOutOfRange _ _ s => s
  | .jam _ s => s
  | .unknownOpcode _ s => s

/-- The same fault, keeping `s`. -/
def Fault.keep (s : State) (f : Fault) : Fault :=
  match f with
  | .notImplemented a _ => .notImplemented a s
  | .cartridgeOutOfRange r o _ => .cartridgeOutOfRange r o s
  | .jam pc _ => .jam pc s
  | .unknownOpcode op _ => .unknownOpcode op s

/-! ## The mapper -/

/-- The PRG-ROM offset a CPU address reaches (R99, R100). -/
def prgOffset (s : State) (a : Word) : Nat :=
  match s.cart.mapper with
  | .nrom => (a.toNat - 0x8000) % (16384 * s.cart.prgBanks)
  | .uxrom =>
    if a.toNat ≤ 0xBFFF then s.bankSel * 16384 + (a.toNat - 0x8000)
    else (s.cart.prgBanks - 1) * 16384 + (a.toNat - 0xC000)

/-- `MapperPrgRead(a)` (R99, R100), with the fault of R103. -/
def prgRead (a : Word) (s : State) : Res Byte :=
  if prgOffset s a < 16384 * s.cart.prgBanks then .ok (s.cart.prgRom.read (prgOffset s a)) s
  else .stop (.cartridgeOutOfRange .prgRom (prgOffset s a) s)

/-- `MapperPrgWrite(a, v)`: nothing under mapper 0 (R104); the bank register under mapper 2 (R100). -/
def prgWrite (v : Byte) (s : State) : State :=
  match s.cart.mapper with
  | .nrom => s
  | .uxrom => { s with bankSel := v.toNat % s.cart.prgBanks }

/-! ## The CPU bus -/

/-- The internal-RAM index of a CPU address, `a & 0x07FF` (R86, R89). -/
def ramIndex (a : Word) : Nat := a.toNat % 0x800

/-- The PRG-RAM index of a CPU address (R86, R94). -/
def prgRamIndex (a : Word) : Nat := a.toNat - 0x6000

/-- `RAM[a & 0x07FF] <- v` (R88). -/
def State.writeRam (s : State) (a : Word) (v : Byte) : State := { s with ram := s.ram.write (ramIndex a) v }

/-- `PRG_RAM[a - 0x6000] <- v` (R88). -/
def State.writePrgRam (s : State) (a : Word) (v : Byte) : State :=
  { s with prgRam := s.prgRam.write (prgRamIndex a) v }

/-- An oracle's answer `v` to a read of `a`, recorded (R69, R92). -/
def State.recordOracle (s : State) (a : Word) (v : Byte) : State :=
  { s with draws := s.draws + 1, out := { s.out with oracleReads := s.out.oracleReads ++ [(a, v)] } }

/-- `APU_READ(a)` (R92). -/
def apuRead (a : Word) (s : State) : Res Byte :=
  .ok (Config.apuRead s.draws a) (s.recordOracle a (Config.apuRead s.draws a))

/-- `INPUT_READ(a)` (R92). -/
def inputRead (a : Word) (s : State) : Res Byte :=
  .ok (Config.inputRead s.draws a) (s.recordOracle a (Config.inputRead s.draws a))

/-- `MemRead(a, 1)` (R87). -/
def busRead (a : Word) (s : State) : Res Byte :=
  if a.toNat ≤ 0x1FFF then .ok (s.ram.read (ramIndex a)) s
  else if a.toNat ≤ 0x3FFF then .ok (readPpuReg (a.toNat % 8) s).1 (readPpuReg (a.toNat % 8) s).2
  else if a.toNat = 0x4014 then .ok (drawByte s).1 (drawByte s).2
  else if a.toNat = 0x4016 ∨ a.toNat = 0x4017 then inputRead a s
  else if a.toNat ≤ 0x4015 then apuRead a s
  else if a.toNat ≤ 0x5FFF then .stop (.notImplemented a s)
  else if a.toNat ≤ 0x7FFF then .ok (s.prgRam.read (prgRamIndex a)) s
  else prgRead a s

/-- `DmaStall()` (R417), from the CPU cycle counter (C1). -/
def dmaStall (s : State) : Nat := 513 + s.cycles % 2

/-- The copy loop of R416: `n` bytes from `base + i` on, each a CPU-bus read (R127) stored at the cursor. -/
def dmaCopy (base : Word) : Nat → Nat → State → Res Unit
  | 0, _, s => .ok () s
  | n + 1, i, s =>
    (busRead (base + BitVec.ofNat 16 i) s).andThen fun v t =>
      dmaCopy base n (i + 1) (t.setPpu (t.ppu.writeOamData v))

/-- `OamDma(d)` (R416): 256 bytes from page `d`, then the stall. -/
def oamDma (d : Byte) (s : State) : Res Unit :=
  (dmaCopy (wordOf d 0) 256 0 s).andThen fun _ t => .ok () { t with stall := t.stall + dmaStall t }

/-- A CPU write passed to the audio unit (R92). -/
def State.recordApuWrite (s : State) (a : Word) (v : Byte) : State :=
  { s with out := { s.out with apuWrites := s.out.apuWrites ++ [(a, v)] } }

/-- A CPU write passed to the controller port (R92). -/
def State.recordControllerWrite (s : State) (a : Word) (v : Byte) : State :=
  { s with out := { s.out with controllerWrites := s.out.controllerWrites ++ [(a, v)] } }

/-- `MemWrite(a, 1, v)` (R88). -/
def busWrite (a : Word) (v : Byte) (s : State) : Res Unit :=
  if a.toNat ≤ 0x1FFF then .ok () (s.writeRam a v)
  else if a.toNat ≤ 0x3FFF then .ok () (writePpuReg (a.toNat % 8) v s)
  else if a.toNat = 0x4014 then oamDma v s
  else if a.toNat = 0x4016 then .ok () (s.recordControllerWrite a v)
  else if a.toNat ≤ 0x4017 then .ok () (s.recordApuWrite a v)
  else if a.toNat ≤ 0x5FFF then .stop (.notImplemented a s)
  else if a.toNat ≤ 0x7FFF then .ok () (s.writePrgRam a v)
  else .ok () (prgWrite v s)

/-- `MemRead(a, 2)` (R16): low byte first. -/
def busRead16 (a : Word) (s : State) : Res Word :=
  (busRead a s).andThen fun lo t => (busRead (a + 1) t).andThen fun hi u => .ok (wordOf hi lo) u

/-- `MemReadPtrWrap(a)` (R16, R155): the high byte from the same page as the low byte. -/
def busReadPtrWrap (a : Word) (s : State) : Res Word :=
  (busRead a s).andThen fun lo t =>
    (busRead (wordOf (highByte a) (lowByte a + 1)) t).andThen fun hi u => .ok (wordOf hi lo) u

/-! ## The stack -/

/-- The stack address of `sp`, `0x0100 | SP` (R17, R84). -/
def stackAddr (sp : Byte) : Word := wordOf 1 sp

/-- `Push(v)` (R17). The stack page is RAM (R84), so the write never faults. -/
def State.push (s : State) (v : Byte) : State := (s.writeRam (stackAddr s.sp) v).setSp (s.sp - 1)

/-- The byte `Pull()` returns (R17). -/
def State.pulled (s : State) : Byte := s.ram.read (ramIndex (stackAddr (s.sp + 1)))

/-- The state after `Pull()` (R17). -/
def State.pop (s : State) : State := s.setSp (s.sp + 1)

/-- `Push16(w)` (R17): the high byte first. -/
def State.push16 (s : State) (w : Word) : State := (s.push (highByte w)).push (lowByte w)

/-- The word `Pull16()` returns (R17): the low byte first. -/
def State.pulled16 (s : State) : Word := wordOf s.pop.pulled s.pulled

/-! ## Taking an interrupt and returning -/

/-- Taking an interrupt or BRK (R282, R509): PC then P on the stack, with bit 4 of the pushed P as given (D7), I set, PC
from the vector. D is unchanged. -/
def enterInterrupt (brk : Bool) (vector : Word) (s : State) : Res Unit :=
  let t := ((s.push16 s.pc).push (s.p.pack brk)).setI true
  (busRead16 vector t).andThen fun w u => .ok () (u.setPc w)

/-- `TakeInterrupt(vector)` for NMI and IRQ (R509): seven cycles, B = 0. -/
def takeInterrupt (vector : Word) (s : State) : Res Unit :=
  (enterInterrupt false vector s).andThen fun _ t => .ok () (t.addCycles 7)

/-- The return of RTI (R283): P, then PC, from the stack. -/
def returnFromInterrupt (s : State) : State :=
  let t := (s.setP (Status.unpack s.pulled)).pop
  (t.pop.pop).setPc t.pulled16

end Sys2Proof.Machine
end

