-- ==== Sys2Proof/Machine/Construct.lean ====
section
/-! DEFINITION. Console construction: the cartridge value (R66), which cartridges are admitted (R102), and the reset of
memories, mapper, PPU and CPU (R550 to R554) for every value of the parameters. -/

namespace Sys2Proof.Machine

/-- The cartridge value the external parser passes (R66). -/
structure CartValue where
  prgRom : Memory
  /-- `n`, header byte 4 -/
  prgBanks : Nat
  /-- CHR-ROM bytes; unused when there are none -/
  chr : Memory
  /-- `m`, header byte 5 -/
  chrBanks : Nat
  /-- header byte 6, bit 0 -/
  mirroringBit : Bool
  mapperId : Byte
  /-- header byte 8 -/
  prgRamUnits : Nat
  deriving DecidableEq, Repr

/-- The header fields of R66 and D49, from header bytes 4 to 8. -/
def CartValue.ofHeader (b4 b5 b6 b7 b8 : Byte) (prgRom chr : Memory) : CartValue :=
  { prgRom := prgRom, prgBanks := b4.toNat, chr := chr, chrBanks := b5.toNat,
    mirroringBit := b6.getLsbD 0, mapperId := (b7 &&& 0xF0#8) ||| (b6 >>> 4), prgRamUnits := b8.toNat }

/-- The mapper of an admitted cartridge (R102); none for any other. -/
def CartValue.mapper? (c : CartValue) : Option Mapper :=
  if c.mapperId = 0 ∧ (c.prgBanks = 1 ∨ c.prgBanks = 2) ∧ c.chrBanks ≤ 1 then some .nrom
  else if c.mapperId = 2 ∧ 1 ≤ c.prgBanks ∧ c.chrBanks ≤ 1 then some .uxrom
  else none

/-- The parameters of R12 that only the reset reads: `RESET_A`, `RESET_X`, `RESET_Y`, `CYCLE0` and `INIT_MEM`. -/
structure PowerOn where
  a : Byte
  x : Byte
  y : Byte
  cycle0 : Nat
  ram : Memory
  prgRam : Memory
  chrRam : Memory
  ciram : Memory
  oam : Memory
  pal : Cells 6
  deriving DecidableEq, Repr

/-- The cartridge inside the console: header bit 0 means horizontal (D49); no CHR-ROM bank means CHR-RAM, filled from
`INIT_MEM` (R66, D14). -/
def CartValue.insert (c : CartValue) (mapper : Mapper) (chrRam : Memory) : Cart :=
  { prgRom := c.prgRom, prgBanks := c.prgBanks,
    chr := if c.chrBanks = 0 then chrRam else c.chr, chrBanks := c.chrBanks,
    mirroring := if c.mirroringBit then .vertical else .horizontal, mapper := mapper, prgRamUnits := c.prgRamUnits }

/-- The state before the reset vector is read (R550 to R554). -/
def beforeVector (cart : Cart) (o : PowerOn) (params : Params) (irq : List Bool) : State :=
  { a := o.a, x := o.x, y := o.y, sp := 0xFD, pc := 0, p := Status.unpack 0x24,
    cycles := o.cycle0, stall := 0, nmiPending := false,
    ram := o.ram, prgRam := o.prgRam, bankSel := 0, cart := cart,
    ppu := Ppu.resetWith o.oam o.pal o.ciram, out := Outputs.reset,
    irqInputs := irq, draws := 0, params := params }

/-- Console construction (R550 to R555, R102): refused for a cartridge that is not admitted, else the reset state, PC read
from 0xFFFC through the mapper. No CPU step and no dot runs (R574). -/
def construct (c : CartValue) (o : PowerOn) (params : Params) (irq : List Bool) : Outcome :=
  match c.mapper? with
  | none => .refused .unsupportedCartridge
  | some mapper =>
    ((busRead16 0xFFFC (beforeVector (c.insert mapper o.chrRam) o params irq)).andThen fun w t =>
      .ok () (t.setPc w)).toOutcome

/-- The cartridge value and power-on values that `State.reset` is built from (log entries 3, 5 and 6). -/
def CartValue.atReset : CartValue :=
  { prgRom := [], prgBanks := 1, chr := [], chrBanks := 0, mirroringBit := false, mapperId := 0, prgRamUnits := 0 }

/-- The simulator's defaults of R12. -/
def PowerOn.atReset : PowerOn :=
  { a := 0, x := 0, y := 0, cycle0 := 7, ram := [], prgRam := [], chrRam := [], ciram := [], oam := [], pal := [] }

end Sys2Proof.Machine
end

