-- ==== Sys2Proof/Machine/Operands.lean ====
section
/-! DEFINITION. Operand forms: the memory addressing modes and their effective addresses (R147 to R154), and the frames that
the instructions of one shape run in (R165, R166). The operand bytes have been fetched and stand in the instruction. -/

namespace Sys2Proof.Machine

/-! ## Effective addresses -/

/-- A memory addressing mode with its operand bytes (R147 to R154). -/
inductive AddrMode where
  | zeroPage (zp : Byte)
  | zeroPageX (zp : Byte)
  | zeroPageY (zp : Byte)
  | absolute (addr : Word)
  | absoluteX (addr : Word)
  | absoluteY (addr : Word)
  | indexedIndirect (zp : Byte)
  | indirectIndexed (zp : Byte)
  deriving DecidableEq, Repr

/-- What resolution produces: the address before indexing and the effective address `ea`. -/
structure EA where
  base : Word
  addr : Word
  deriving DecidableEq, Repr

/-- `crossed`: the high byte of the base differs from the high byte of the sum (R151, R152, R154). -/
def EA.crossed (e : EA) : Bool := highByte e.base != highByte e.addr

/-- An unindexed address, or one whose index stays within the zero page: never crossed. -/
def EA.direct (a : Word) : EA := { base := a, addr := a }

/-- The 16-bit address of a zero-page byte. -/
def zeroPageAddr (zp : Byte) : Word := wordOf 0 zp

/-- The pointer at zero-page address `zp`, its high byte also from the zero page (R153, R154). The zero page is RAM, so
the reads never fault and have no side effect. -/
def zeroPagePointer (zp : Byte) (s : State) : Word :=
  wordOf (s.ram.read (ramIndex (zeroPageAddr (zp + 1)))) (s.ram.read (ramIndex (zeroPageAddr zp)))

/-- The effective address of a memory mode (R147 to R154). -/
def resolve (m : AddrMode) (s : State) : EA :=
  match m with
  | .zeroPage zp => EA.direct (zeroPageAddr zp)
  | .zeroPageX zp => EA.direct (zeroPageAddr (zp + s.x))
  | .zeroPageY zp => EA.direct (zeroPageAddr (zp + s.y))
  | .absolute addr => EA.direct addr
  | .absoluteX addr => { base := addr, addr := addr + s.x.setWidth 16 }
  | .absoluteY addr => { base := addr, addr := addr + s.y.setWidth 16 }
  | .indexedIndirect zp => EA.direct (zeroPagePointer (zp + s.x) s)
  | .indirectIndexed zp =>
    { base := zeroPagePointer zp s, addr := zeroPagePointer zp s + s.y.setWidth 16 }

/-- The memory mode of an instruction, from its descriptor's mode and its operand bytes; none for the modes that name no
memory operand (Implied, Accumulator, Immediate, Relative, Indirect). -/
def addrModeOf (mode : Mode) (operand : List Byte) : Option AddrMode :=
  match mode, operand with
  | .zeroPage, [zp] => some (.zeroPage zp)
  | .zeroPageX, [zp] => some (.zeroPageX zp)
  | .zeroPageY, [zp] => some (.zeroPageY zp)
  | .absolute, [lo, hi] => some (.absolute (wordOf hi lo))
  | .absoluteX, [lo, hi] => some (.absoluteX (wordOf hi lo))
  | .absoluteY, [lo, hi] => some (.absoluteY (wordOf hi lo))
  | .indexedIndirect, [zp] => some (.indexedIndirect zp)
  | .indirectIndexed, [zp] => some (.indirectIndexed zp)
  | _, _ => none

/-! ## Instruction frames (R165) -/

/-- An instruction with no operand: the frame, then `f`. -/
def impliedInstr (size cycles : Nat) (f : State → State) (s : State) : Outcome :=
  .next (f (s.advance size cycles))

/-- An instruction with an immediate byte (R146). -/
def immInstr (size cycles : Nat) (f : Byte → State → State) (imm : Byte) (s : State) : Outcome :=
  .next (f imm (s.advance size cycles))

/-- A shift or rotate of A (R145, R166): `f` gives the result and sets C, then A, Z and N are written. -/
def accInstr (size cycles : Nat) (f : Byte → State → Byte × State) (s : State) : Outcome :=
  let r := f s.a (s.advance size cycles)
  .next ((r.2.setA r.1).setZN r.1)

/-- The cycles the frame adds before the handler (R165): the base, and the page-cross cost if the page is crossed. -/
def frameCycles (cycles pageCross : Nat) (e : EA) : Nat := cycles + if e.crossed then pageCross else 0

/-- An instruction that reads one byte at its effective address. -/
def readInstr (size cycles pageCross : Nat) (m : AddrMode) (f : Byte → State → State) (s : State) : Outcome :=
  let e := resolve m s
  ((busRead e.addr (s.advance size (frameCycles cycles pageCross e))).andThen fun v t => .ok () (f v t)).toOutcome

/-- An instruction that only stores (R166): no read of the effective address and no page-cross cost. -/
def storeInstr (size cycles : Nat) (m : AddrMode) (value : State → Byte) (s : State) : Outcome :=
  (busWrite (resolve m s).addr (value s) (s.advance size cycles)).toOutcome

/-- A read-modify-write instruction (R98, R166): one read, `f` on the byte, one write of the result at the same address,
then `g` with the result. -/
def rmwInstr (size cycles : Nat) (m : AddrMode) (f : Byte → State → Byte × State) (g : Byte → State → State) (s : State) :
    Outcome :=
  let a := (resolve m s).addr
  ((busRead a (s.advance size cycles)).andThen fun v t =>
    (busWrite a (f v t).1 (f v t).2).andThen fun _ u => .ok () (g (f v t).1 u)).toOutcome

end Sys2Proof.Machine
end

