-- ==== Sys2Proof/Machine/Arith.lean ====
section
/-! DEFINITION. Arithmetic, logic, compare, increment and shift instructions (41_arith_logic.md, R235 to R253): the
handlers, then one meaning per opcode. -/

namespace Sys2Proof.Machine

/-! ## Handlers -/

/-- ADC (R235). -/
def addM (m : Byte) (s : State) : State := s.addIntoA m

/-- SBC (R236). -/
def subM (m : Byte) (s : State) : State := s.subFromA m

/-- AND (R237). -/
def andAcc (m : Byte) (s : State) : State := (s.setA (s.a &&& m)).setZN (s.a &&& m)

/-- ORA (R238). -/
def orAcc (m : Byte) (s : State) : State := (s.setA (s.a ||| m)).setZN (s.a ||| m)

/-- EOR (R239). -/
def eorAcc (m : Byte) (s : State) : State := (s.setA (s.a ^^^ m)).setZN (s.a ^^^ m)

/-- CMP (R240). -/
def cmpM (m : Byte) (s : State) : State := s.compare s.a m

/-- CPX (R241). -/
def cpxM (m : Byte) (s : State) : State := s.compare s.x m

/-- CPY (R242). -/
def cpyM (m : Byte) (s : State) : State := s.compare s.y m

/-- BIT (R243). -/
def bitM (m : Byte) (s : State) : State := s.bitTest m

/-- The byte INC writes (R244); C is unchanged. -/
def incV (v : Byte) (s : State) : Byte × State := (v + 1, s)

/-- The byte DEC writes (R245). -/
def decV (v : Byte) (s : State) : Byte × State := (v - 1, s)

/-- What INC, DEC and the memory shifts do after their write: `SetZN(r)`. -/
def afterRmw (r : Byte) (s : State) : State := s.setZN r

/-- INX (R246). -/
def inxOp (s : State) : State := (s.setX (s.x + 1)).setZN (s.x + 1)

/-- INY (R247). -/
def inyOp (s : State) : State := (s.setY (s.y + 1)).setZN (s.y + 1)

/-- DEX (R248). -/
def dexOp (s : State) : State := (s.setX (s.x - 1)).setZN (s.x - 1)

/-- DEY (R249). -/
def deyOp (s : State) : State := (s.setY (s.y - 1)).setZN (s.y - 1)

/-! ## Meanings -/

/-! ### ADC (R235) -/

/-- 0x61 ADC (zp,X) (R235). -/
def execAdcIndX (zp : Byte) (s : State) : Outcome :=
  readInstr 2 6 0 (.indexedIndirect zp) addM s

/-- 0x65 ADC zp (R235). -/
def execAdcZp (zp : Byte) (s : State) : Outcome :=
  readInstr 2 3 0 (.zeroPage zp) addM s

/-- 0x69 ADC #imm (R235). -/
def execAdcImm (imm : Byte) (s : State) : Outcome :=
  immInstr 2 2 addM imm s

/-- 0x6D ADC abs (R235). -/
def execAdcAbs (addr : Word) (s : State) : Outcome :=
  readInstr 3 4 0 (.absolute addr) addM s

/-- 0x71 ADC (zp),Y (R235). -/
def execAdcIndY (zp : Byte) (s : State) : Outcome :=
  readInstr 2 5 1 (.indirectIndexed zp) addM s

/-- 0x75 ADC zp,X (R235). -/
def execAdcZpX (zp : Byte) (s : State) : Outcome :=
  readInstr 2 4 0 (.zeroPageX zp) addM s

/-- 0x79 ADC abs,Y (R235). -/
def execAdcAbsY (addr : Word) (s : State) : Outcome :=
  readInstr 3 4 1 (.absoluteY addr) addM s

/-- 0x7D ADC abs,X (R235). -/
def execAdcAbsX (addr : Word) (s : State) : Outcome :=
  readInstr 3 4 1 (.absoluteX addr) addM s

/-! ### SBC (R236) -/

/-- 0xE1 SBC (zp,X) (R236). -/
def execSbcIndX (zp : Byte) (s : State) : Outcome :=
  readInstr 2 6 0 (.indexedIndirect zp) subM s

/-- 0xE5 SBC zp (R236). -/
def execSbcZp (zp : Byte) (s : State) : Outcome :=
  readInstr 2 3 0 (.zeroPage zp) subM s

/-- 0xE9 SBC #imm (R236). -/
def execSbcImm (imm : Byte) (s : State) : Outcome :=
  immInstr 2 2 subM imm s

/-- 0xED SBC abs (R236). -/
def execSbcAbs (addr : Word) (s : State) : Outcome :=
  readInstr 3 4 0 (.absolute addr) subM s

/-- 0xF1 SBC (zp),Y (R236). -/
def execSbcIndY (zp : Byte) (s : State) : Outcome :=
  readInstr 2 5 1 (.indirectIndexed zp) subM s

/-- 0xF5 SBC zp,X (R236). -/
def execSbcZpX (zp : Byte) (s : State) : Outcome :=
  readInstr 2 4 0 (.zeroPageX zp) subM s

/-- 0xF9 SBC abs,Y (R236). -/
def execSbcAbsY (addr : Word) (s : State) : Outcome :=
  readInstr 3 4 1 (.absoluteY addr) subM s

/-- 0xFD SBC abs,X (R236). -/
def execSbcAbsX (addr : Word) (s : State) : Outcome :=
  readInstr 3 4 1 (.absoluteX addr) subM s

/-! ### AND (R237) -/

/-- 0x21 AND (zp,X) (R237). -/
def execAndIndX (zp : Byte) (s : State) : Outcome :=
  readInstr 2 6 0 (.indexedIndirect zp) andAcc s

/-- 0x25 AND zp (R237). -/
def execAndZp (zp : Byte) (s : State) : Outcome :=
  readInstr 2 3 0 (.zeroPage zp) andAcc s

/-- 0x29 AND #imm (R237). -/
def execAndImm (imm : Byte) (s : State) : Outcome :=
  immInstr 2 2 andAcc imm s

/-- 0x2D AND abs (R237). -/
def execAndAbs (addr : Word) (s : State) : Outcome :=
  readInstr 3 4 0 (.absolute addr) andAcc s

/-- 0x31 AND (zp),Y (R237). -/
def execAndIndY (zp : Byte) (s : State) : Outcome :=
  readInstr 2 5 1 (.indirectIndexed zp) andAcc s

/-- 0x35 AND zp,X (R237). -/
def execAndZpX (zp : Byte) (s : State) : Outcome :=
  readInstr 2 4 0 (.zeroPageX zp) andAcc s

/-- 0x39 AND abs,Y (R237). -/
def execAndAbsY (addr : Word) (s : State) : Outcome :=
  readInstr 3 4 1 (.absoluteY addr) andAcc s

/-- 0x3D AND abs,X (R237). -/
def execAndAbsX (addr : Word) (s : State) : Outcome :=
  readInstr 3 4 1 (.absoluteX addr) andAcc s

/-! ### ORA (R238) -/

/-- 0x01 ORA (zp,X) (R238). -/
def execOraIndX (zp : Byte) (s : State) : Outcome :=
  readInstr 2 6 0 (.indexedIndirect zp) orAcc s

/-- 0x05 ORA zp (R238). -/
def execOraZp (zp : Byte) (s : State) : Outcome :=
  readInstr 2 3 0 (.zeroPage zp) orAcc s

/-- 0x09 ORA #imm (R238). -/
def execOraImm (imm : Byte) (s : State) : Outcome :=
  immInstr 2 2 orAcc imm s

/-- 0x0D ORA abs (R238). -/
def execOraAbs (addr : Word) (s : State) : Outcome :=
  readInstr 3 4 0 (.absolute addr) orAcc s

/-- 0x11 ORA (zp),Y (R238). -/
def execOraIndY (zp : Byte) (s : State) : Outcome :=
  readInstr 2 5 1 (.indirectIndexed zp) orAcc s

/-- 0x15 ORA zp,X (R238). -/
def execOraZpX (zp : Byte) (s : State) : Outcome :=
  readInstr 2 4 0 (.zeroPageX zp) orAcc s

/-- 0x19 ORA abs,Y (R238). -/
def execOraAbsY (addr : Word) (s : State) : Outcome :=
  readInstr 3 4 1 (.absoluteY addr) orAcc s

/-- 0x1D ORA abs,X (R238). -/
def execOraAbsX (addr : Word) (s : State) : Outcome :=
  readInstr 3 4 1 (.absoluteX addr) orAcc s

/-! ### EOR (R239) -/

/-- 0x41 EOR (zp,X) (R239). -/
def execEorIndX (zp : Byte) (s : State) : Outcome :=
  readInstr 2 6 0 (.indexedIndirect zp) eorAcc s

/-- 0x45 EOR zp (R239). -/
def execEorZp (zp : Byte) (s : State) : Outcome :=
  readInstr 2 3 0 (.zeroPage zp) eorAcc s

/-- 0x49 EOR #imm (R239). -/
def execEorImm (imm : Byte) (s : State) : Outcome :=
  immInstr 2 2 eorAcc imm s

/-- 0x4D EOR abs (R239). -/
def execEorAbs (addr : Word) (s : State) : Outcome :=
  readInstr 3 4 0 (.absolute addr) eorAcc s

/-- 0x51 EOR (zp),Y (R239). -/
def execEorIndY (zp : Byte) (s : State) : Outcome :=
  readInstr 2 5 1 (.indirectIndexed zp) eorAcc s

/-- 0x55 EOR zp,X (R239). -/
def execEorZpX (zp : Byte) (s : State) : Outcome :=
  readInstr 2 4 0 (.zeroPageX zp) eorAcc s

/-- 0x59 EOR abs,Y (R239). -/
def execEorAbsY (addr : Word) (s : State) : Outcome :=
  readInstr 3 4 1 (.absoluteY addr) eorAcc s

/-- 0x5D EOR abs,X (R239). -/
def execEorAbsX (addr : Word) (s : State) : Outcome :=
  readInstr 3 4 1 (.absoluteX addr) eorAcc s

/-! ### CMP (R240) -/

/-- 0xC1 CMP (zp,X) (R240). -/
def execCmpIndX (zp : Byte) (s : State) : Outcome :=
  readInstr 2 6 0 (.indexedIndirect zp) cmpM s

/-- 0xC5 CMP zp (R240). -/
def execCmpZp (zp : Byte) (s : State) : Outcome :=
  readInstr 2 3 0 (.zeroPage zp) cmpM s

/-- 0xC9 CMP #imm (R240). -/
def execCmpImm (imm : Byte) (s : State) : Outcome :=
  immInstr 2 2 cmpM imm s

/-- 0xCD CMP abs (R240). -/
def execCmpAbs (addr : Word) (s : State) : Outcome :=
  readInstr 3 4 0 (.absolute addr) cmpM s

/-- 0xD1 CMP (zp),Y (R240). -/
def execCmpIndY (zp : Byte) (s : State) : Outcome :=
  readInstr 2 5 1 (.indirectIndexed zp) cmpM s

/-- 0xD5 CMP zp,X (R240). -/
def execCmpZpX (zp : Byte) (s : State) : Outcome :=
  readInstr 2 4 0 (.zeroPageX zp) cmpM s

/-- 0xD9 CMP abs,Y (R240). -/
def execCmpAbsY (addr : Word) (s : State) : Outcome :=
  readInstr 3 4 1 (.absoluteY addr) cmpM s

/-- 0xDD CMP abs,X (R240). -/
def execCmpAbsX (addr : Word) (s : State) : Outcome :=
  readInstr 3 4 1 (.absoluteX addr) cmpM s

/-! ### CPX (R241) -/

/-- 0xE0 CPX #imm (R241). -/
def execCpxImm (imm : Byte) (s : State) : Outcome :=
  immInstr 2 2 cpxM imm s

/-- 0xE4 CPX zp (R241). -/
def execCpxZp (zp : Byte) (s : State) : Outcome :=
  readInstr 2 3 0 (.zeroPage zp) cpxM s

/-- 0xEC CPX abs (R241). -/
def execCpxAbs (addr : Word) (s : State) : Outcome :=
  readInstr 3 4 0 (.absolute addr) cpxM s

/-! ### CPY (R242) -/

/-- 0xC0 CPY #imm (R242). -/
def execCpyImm (imm : Byte) (s : State) : Outcome :=
  immInstr 2 2 cpyM imm s

/-- 0xC4 CPY zp (R242). -/
def execCpyZp (zp : Byte) (s : State) : Outcome :=
  readInstr 2 3 0 (.zeroPage zp) cpyM s

/-- 0xCC CPY abs (R242). -/
def execCpyAbs (addr : Word) (s : State) : Outcome :=
  readInstr 3 4 0 (.absolute addr) cpyM s

/-! ### BIT (R243) -/

/-- 0x24 BIT zp (R243). -/
def execBitZp (zp : Byte) (s : State) : Outcome :=
  readInstr 2 3 0 (.zeroPage zp) bitM s

/-- 0x2C BIT abs (R243). -/
def execBitAbs (addr : Word) (s : State) : Outcome :=
  readInstr 3 4 0 (.absolute addr) bitM s

/-! ### INC (R244) -/

/-- 0xE6 INC zp (R244). -/
def execIncZp (zp : Byte) (s : State) : Outcome :=
  rmwInstr 2 5 (.zeroPage zp) incV afterRmw s

/-- 0xEE INC abs (R244). -/
def execIncAbs (addr : Word) (s : State) : Outcome :=
  rmwInstr 3 6 (.absolute addr) incV afterRmw s

/-- 0xF6 INC zp,X (R244). -/
def execIncZpX (zp : Byte) (s : State) : Outcome :=
  rmwInstr 2 6 (.zeroPageX zp) incV afterRmw s

/-- 0xFE INC abs,X (R244). -/
def execIncAbsX (addr : Word) (s : State) : Outcome :=
  rmwInstr 3 7 (.absoluteX addr) incV afterRmw s

/-! ### DEC (R245) -/

/-- 0xC6 DEC zp (R245). -/
def execDecZp (zp : Byte) (s : State) : Outcome :=
  rmwInstr 2 5 (.zeroPage zp) decV afterRmw s

/-- 0xCE DEC abs (R245). -/
def execDecAbs (addr : Word) (s : State) : Outcome :=
  rmwInstr 3 6 (.absolute addr) decV afterRmw s

/-- 0xD6 DEC zp,X (R245). -/
def execDecZpX (zp : Byte) (s : State) : Outcome :=
  rmwInstr 2 6 (.zeroPageX zp) decV afterRmw s

/-- 0xDE DEC abs,X (R245). -/
def execDecAbsX (addr : Word) (s : State) : Outcome :=
  rmwInstr 3 7 (.absoluteX addr) decV afterRmw s

/-! ### INX (R246) -/

/-- 0xE8 INX (R246). -/
def execInx (s : State) : Outcome :=
  impliedInstr 1 2 inxOp s

/-! ### INY (R247) -/

/-- 0xC8 INY (R247). -/
def execIny (s : State) : Outcome :=
  impliedInstr 1 2 inyOp s

/-! ### DEX (R248) -/

/-- 0xCA DEX (R248). -/
def execDex (s : State) : Outcome :=
  impliedInstr 1 2 dexOp s

/-! ### DEY (R249) -/

/-- 0x88 DEY (R249). -/
def execDey (s : State) : Outcome :=
  impliedInstr 1 2 deyOp s

/-! ### ASL (R250) -/

/-- 0x06 ASL zp (R250). -/
def execAslZp (zp : Byte) (s : State) : Outcome :=
  rmwInstr 2 5 (.zeroPage zp) asl afterRmw s

/-- 0x0A ASL A (R250). -/
def execAslAcc (s : State) : Outcome :=
  accInstr 1 2 asl s

/-- 0x0E ASL abs (R250). -/
def execAslAbs (addr : Word) (s : State) : Outcome :=
  rmwInstr 3 6 (.absolute addr) asl afterRmw s

/-- 0x16 ASL zp,X (R250). -/
def execAslZpX (zp : Byte) (s : State) : Outcome :=
  rmwInstr 2 6 (.zeroPageX zp) asl afterRmw s

/-- 0x1E ASL abs,X (R250). -/
def execAslAbsX (addr : Word) (s : State) : Outcome :=
  rmwInstr 3 7 (.absoluteX addr) asl afterRmw s

/-! ### LSR (R251) -/

/-- 0x46 LSR zp (R251). -/
def execLsrZp (zp : Byte) (s : State) : Outcome :=
  rmwInstr 2 5 (.zeroPage zp) lsr afterRmw s

/-- 0x4A LSR A (R251). -/
def execLsrAcc (s : State) : Outcome :=
  accInstr 1 2 lsr s

/-- 0x4E LSR abs (R251). -/
def execLsrAbs (addr : Word) (s : State) : Outcome :=
  rmwInstr 3 6 (.absolute addr) lsr afterRmw s

/-- 0x56 LSR zp,X (R251). -/
def execLsrZpX (zp : Byte) (s : State) : Outcome :=
  rmwInstr 2 6 (.zeroPageX zp) lsr afterRmw s

/-- 0x5E LSR abs,X (R251). -/
def execLsrAbsX (addr : Word) (s : State) : Outcome :=
  rmwInstr 3 7 (.absoluteX addr) lsr afterRmw s

/-! ### ROL (R252) -/

/-- 0x26 ROL zp (R252). -/
def execRolZp (zp : Byte) (s : State) : Outcome :=
  rmwInstr 2 5 (.zeroPage zp) rol afterRmw s

/-- 0x2A ROL A (R252). -/
def execRolAcc (s : State) : Outcome :=
  accInstr 1 2 rol s

/-- 0x2E ROL abs (R252). -/
def execRolAbs (addr : Word) (s : State) : Outcome :=
  rmwInstr 3 6 (.absolute addr) rol afterRmw s

/-- 0x36 ROL zp,X (R252). -/
def execRolZpX (zp : Byte) (s : State) : Outcome :=
  rmwInstr 2 6 (.zeroPageX zp) rol afterRmw s

/-- 0x3E ROL abs,X (R252). -/
def execRolAbsX (addr : Word) (s : State) : Outcome :=
  rmwInstr 3 7 (.absoluteX addr) rol afterRmw s

/-! ### ROR (R253) -/

/-- 0x66 ROR zp (R253). -/
def execRorZp (zp : Byte) (s : State) : Outcome :=
  rmwInstr 2 5 (.zeroPage zp) ror afterRmw s

/-- 0x6A ROR A (R253). -/
def execRorAcc (s : State) : Outcome :=
  accInstr 1 2 ror s

/-- 0x6E ROR abs (R253). -/
def execRorAbs (addr : Word) (s : State) : Outcome :=
  rmwInstr 3 6 (.absolute addr) ror afterRmw s

/-- 0x76 ROR zp,X (R253). -/
def execRorZpX (zp : Byte) (s : State) : Outcome :=
  rmwInstr 2 6 (.zeroPageX zp) ror afterRmw s

/-- 0x7E ROR abs,X (R253). -/
def execRorAbsX (addr : Word) (s : State) : Outcome :=
  rmwInstr 3 7 (.absoluteX addr) ror afterRmw s

end Sys2Proof.Machine
end

