-- ==== Sys2Proof/Machine/Control.lean ====
section
/-! DEFINITION. Branch, jump, subroutine, interrupt and flag instructions (42_control.md, R270 to R291): the handlers, then
one meaning per opcode. -/

namespace Sys2Proof.Machine

/-! ## Handlers -/

/-- The target of a branch at `pc` (R156): `u16(pc + 2 + off)`. -/
def branchTarget (pc : Word) (off : Int) : Word := pc + 2 + BitVec.ofInt 16 off

/-- `Branch(cond)` in its frame (R270): one extra cycle when taken, two when the target is on another page than the next
instruction. -/
def branchInstr (size cycles : Nat) (cond : Bool) (off : Int) (s : State) : Outcome :=
  let t := s.advance size cycles
  let target := branchTarget s.pc off
  if cond then
    .next ((t.setPc target).addCycles (if highByte t.pc = highByte target then 1 else 2))
  else .next t

/-- JSR (R280): pushes the address of its own last byte. -/
def jsrTo (size cycles : Nat) (addr : Word) (s : State) : Outcome :=
  let t := s.advance size cycles
  .next ((t.push16 (t.pc - 1)).setPc addr)

/-- RTS (R281). -/
def rtsOp (s : State) : State := (s.pop.pop).setPc (s.pulled16 + 1)

/-- CLC (R284). -/
def clcOp (s : State) : State := s.setC false

/-- SEC (R285). -/
def secOp (s : State) : State := s.setC true

/-- CLI (R286). -/
def cliOp (s : State) : State := s.setI false

/-- SEI (R287). -/
def seiOp (s : State) : State := s.setI true

/-- CLD (R288). -/
def cldOp (s : State) : State := s.setD false

/-- SED (R289). -/
def sedOp (s : State) : State := s.setD true

/-- CLV (R290). -/
def clvOp (s : State) : State := s.setV false

/-- NOP (R291). -/
def nopOp (s : State) : State := s

/-! ## Meanings -/

/-! ### BPL (R271) -/

/-- 0x10 BPL rel (R271). -/
def execBpl (off : Int) (s : State) : Outcome :=
  branchInstr 2 2 (!s.p.n) off s

/-! ### BMI (R272) -/

/-- 0x30 BMI rel (R272). -/
def execBmi (off : Int) (s : State) : Outcome :=
  branchInstr 2 2 (s.p.n) off s

/-! ### BVC (R273) -/

/-- 0x50 BVC rel (R273). -/
def execBvc (off : Int) (s : State) : Outcome :=
  branchInstr 2 2 (!s.p.v) off s

/-! ### BVS (R274) -/

/-- 0x70 BVS rel (R274). -/
def execBvs (off : Int) (s : State) : Outcome :=
  branchInstr 2 2 (s.p.v) off s

/-! ### BCC (R275) -/

/-- 0x90 BCC rel (R275). -/
def execBcc (off : Int) (s : State) : Outcome :=
  branchInstr 2 2 (!s.p.c) off s

/-! ### BCS (R276) -/

/-- 0xB0 BCS rel (R276). -/
def execBcs (off : Int) (s : State) : Outcome :=
  branchInstr 2 2 (s.p.c) off s

/-! ### BNE (R277) -/

/-- 0xD0 BNE rel (R277). -/
def execBne (off : Int) (s : State) : Outcome :=
  branchInstr 2 2 (!s.p.z) off s

/-! ### BEQ (R278) -/

/-- 0xF0 BEQ rel (R278). -/
def execBeq (off : Int) (s : State) : Outcome :=
  branchInstr 2 2 (s.p.z) off s

/-! ### JMP (R279) -/

/-- 0x4C JMP abs (R279). -/
def execJmpAbs (addr : Word) (s : State) : Outcome :=
  .next ((s.advance 3 3).setPc addr)

/-- 0x6C JMP (abs) (R279). -/
def execJmpInd (addr : Word) (s : State) : Outcome :=
  ((busReadPtrWrap addr s).andThen fun target t => .ok () ((t.advance 3 5).setPc target)).toOutcome

/-! ### JSR (R280) -/

/-- 0x20 JSR abs (R280). -/
def execJsrAbs (addr : Word) (s : State) : Outcome :=
  jsrTo 3 6 addr s

/-! ### RTS (R281) -/

/-- 0x60 RTS (R281). -/
def execRts (s : State) : Outcome :=
  impliedInstr 1 6 rtsOp s

/-! ### BRK (R282) -/

/-- 0x00 BRK (R282). -/
def execBrk (s : State) : Outcome :=
  (enterInterrupt true 0xFFFE (s.advance 2 7)).toOutcome

/-! ### RTI (R283) -/

/-- 0x40 RTI (R283). -/
def execRti (s : State) : Outcome :=
  impliedInstr 1 6 returnFromInterrupt s

/-! ### CLC (R284) -/

/-- 0x18 CLC (R284). -/
def execClc (s : State) : Outcome :=
  impliedInstr 1 2 clcOp s

/-! ### SEC (R285) -/

/-- 0x38 SEC (R285). -/
def execSec (s : State) : Outcome :=
  impliedInstr 1 2 secOp s

/-! ### CLI (R286) -/

/-- 0x58 CLI (R286). -/
def execCli (s : State) : Outcome :=
  impliedInstr 1 2 cliOp s

/-! ### SEI (R287) -/

/-- 0x78 SEI (R287). -/
def execSei (s : State) : Outcome :=
  impliedInstr 1 2 seiOp s

/-! ### CLD (R288) -/

/-- 0xD8 CLD (R288). -/
def execCld (s : State) : Outcome :=
  impliedInstr 1 2 cldOp s

/-! ### SED (R289) -/

/-- 0xF8 SED (R289). -/
def execSed (s : State) : Outcome :=
  impliedInstr 1 2 sedOp s

/-! ### CLV (R290) -/

/-- 0xB8 CLV (R290). -/
def execClv (s : State) : Outcome :=
  impliedInstr 1 2 clvOp s

/-! ### NOP (R291) -/

/-- 0xEA NOP (R291). -/
def execNop (s : State) : Outcome :=
  impliedInstr 1 2 nopOp s

end Sys2Proof.Machine
end

