-- ==== Sys2Proof/Machine/LoadStore.lean ====
section
/-! DEFINITION. Load, store, transfer and stack instructions (40_load_store.md, R200 to R215): the handlers, then one
meaning per opcode. -/

namespace Sys2Proof.Machine

/-! ## Handlers -/

/-- LDA (R200). -/
def loadA (m : Byte) (s : State) : State := (s.setA m).setZN m

/-- LDX (R201). -/
def loadX (m : Byte) (s : State) : State := (s.setX m).setZN m

/-- LDY (R202). -/
def loadY (m : Byte) (s : State) : State := (s.setY m).setZN m

/-- The byte STA stores (R203). -/
def storedA (s : State) : Byte := s.a

/-- The byte STX stores (R204). -/
def storedX (s : State) : Byte := s.x

/-- The byte STY stores (R205). -/
def storedY (s : State) : Byte := s.y

/-- TAX (R206). -/
def taxOp (s : State) : State := (s.setX s.a).setZN s.a

/-- TAY (R207). -/
def tayOp (s : State) : State := (s.setY s.a).setZN s.a

/-- TXA (R208). -/
def txaOp (s : State) : State := (s.setA s.x).setZN s.x

/-- TYA (R209). -/
def tyaOp (s : State) : State := (s.setA s.y).setZN s.y

/-- TSX (R210). -/
def tsxOp (s : State) : State := (s.setX s.sp).setZN s.sp

/-- TXS (R211): no flag. -/
def txsOp (s : State) : State := s.setSp s.x

/-- PHA (R212). -/
def phaOp (s : State) : State := s.push s.a

/-- PHP (R213): the pushed byte has B = 1. -/
def phpOp (s : State) : State := s.push (s.p.pack true)

/-- PLA (R214). -/
def plaOp (s : State) : State := (s.pop.setA s.pulled).setZN s.pulled

/-- PLP (R215). -/
def plpOp (s : State) : State := s.pop.setP (Status.unpack s.pulled)

/-! ## Meanings -/

/-! ### LDA (R200) -/

/-- 0xA1 LDA (zp,X) (R200). -/
def execLdaIndX (zp : Byte) (s : State) : Outcome :=
  readInstr 2 6 0 (.indexedIndirect zp) loadA s

/-- 0xA5 LDA zp (R200). -/
def execLdaZp (zp : Byte) (s : State) : Outcome :=
  readInstr 2 3 0 (.zeroPage zp) loadA s

/-- 0xA9 LDA #imm (R200). -/
def execLdaImm (imm : Byte) (s : State) : Outcome :=
  immInstr 2 2 loadA imm s

/-- 0xAD LDA abs (R200). -/
def execLdaAbs (addr : Word) (s : State) : Outcome :=
  readInstr 3 4 0 (.absolute addr) loadA s

/-- 0xB1 LDA (zp),Y (R200). -/
def execLdaIndY (zp : Byte) (s : State) : Outcome :=
  readInstr 2 5 1 (.indirectIndexed zp) loadA s

/-- 0xB5 LDA zp,X (R200). -/
def execLdaZpX (zp : Byte) (s : State) : Outcome :=
  readInstr 2 4 0 (.zeroPageX zp) loadA s

/-- 0xB9 LDA abs,Y (R200). -/
def execLdaAbsY (addr : Word) (s : State) : Outcome :=
  readInstr 3 4 1 (.absoluteY addr) loadA s

/-- 0xBD LDA abs,X (R200). -/
def execLdaAbsX (addr : Word) (s : State) : Outcome :=
  readInstr 3 4 1 (.absoluteX addr) loadA s

/-! ### LDX (R201) -/

/-- 0xA2 LDX #imm (R201). -/
def execLdxImm (imm : Byte) (s : State) : Outcome :=
  immInstr 2 2 loadX imm s

/-- 0xA6 LDX zp (R201). -/
def execLdxZp (zp : Byte) (s : State) : Outcome :=
  readInstr 2 3 0 (.zeroPage zp) loadX s

/-- 0xAE LDX abs (R201). -/
def execLdxAbs (addr : Word) (s : State) : Outcome :=
  readInstr 3 4 0 (.absolute addr) loadX s

/-- 0xB6 LDX zp,Y (R201). -/
def execLdxZpY (zp : Byte) (s : State) : Outcome :=
  readInstr 2 4 0 (.zeroPageY zp) loadX s

/-- 0xBE LDX abs,Y (R201). -/
def execLdxAbsY (addr : Word) (s : State) : Outcome :=
  readInstr 3 4 1 (.absoluteY addr) loadX s

/-! ### LDY (R202) -/

/-- 0xA0 LDY #imm (R202). -/
def execLdyImm (imm : Byte) (s : State) : Outcome :=
  immInstr 2 2 loadY imm s

/-- 0xA4 LDY zp (R202). -/
def execLdyZp (zp : Byte) (s : State) : Outcome :=
  readInstr 2 3 0 (.zeroPage zp) loadY s

/-- 0xAC LDY abs (R202). -/
def execLdyAbs (addr : Word) (s : State) : Outcome :=
  readInstr 3 4 0 (.absolute addr) loadY s

/-- 0xB4 LDY zp,X (R202). -/
def execLdyZpX (zp : Byte) (s : State) : Outcome :=
  readInstr 2 4 0 (.zeroPageX zp) loadY s

/-- 0xBC LDY abs,X (R202). -/
def execLdyAbsX (addr : Word) (s : State) : Outcome :=
  readInstr 3 4 1 (.absoluteX addr) loadY s

/-! ### STA (R203) -/

/-- 0x81 STA (zp,X) (R203). -/
def execStaIndX (zp : Byte) (s : State) : Outcome :=
  storeInstr 2 6 (.indexedIndirect zp) storedA s

/-- 0x85 STA zp (R203). -/
def execStaZp (zp : Byte) (s : State) : Outcome :=
  storeInstr 2 3 (.zeroPage zp) storedA s

/-- 0x8D STA abs (R203). -/
def execStaAbs (addr : Word) (s : State) : Outcome :=
  storeInstr 3 4 (.absolute addr) storedA s

/-- 0x91 STA (zp),Y (R203). -/
def execStaIndY (zp : Byte) (s : State) : Outcome :=
  storeInstr 2 6 (.indirectIndexed zp) storedA s

/-- 0x95 STA zp,X (R203). -/
def execStaZpX (zp : Byte) (s : State) : Outcome :=
  storeInstr 2 4 (.zeroPageX zp) storedA s

/-- 0x99 STA abs,Y (R203). -/
def execStaAbsY (addr : Word) (s : State) : Outcome :=
  storeInstr 3 5 (.absoluteY addr) storedA s

/-- 0x9D STA abs,X (R203). -/
def execStaAbsX (addr : Word) (s : State) : Outcome :=
  storeInstr 3 5 (.absoluteX addr) storedA s

/-! ### STX (R204) -/

/-- 0x86 STX zp (R204). -/
def execStxZp (zp : Byte) (s : State) : Outcome :=
  storeInstr 2 3 (.zeroPage zp) storedX s

/-- 0x8E STX abs (R204). -/
def execStxAbs (addr : Word) (s : State) : Outcome :=
  storeInstr 3 4 (.absolute addr) storedX s

/-- 0x96 STX zp,Y (R204). -/
def execStxZpY (zp : Byte) (s : State) : Outcome :=
  storeInstr 2 4 (.zeroPageY zp) storedX s

/-! ### STY (R205) -/

/-- 0x84 STY zp (R205). -/
def execStyZp (zp : Byte) (s : State) : Outcome :=
  storeInstr 2 3 (.zeroPage zp) storedY s

/-- 0x8C STY abs (R205). -/
def execStyAbs (addr : Word) (s : State) : Outcome :=
  storeInstr 3 4 (.absolute addr) storedY s

/-- 0x94 STY zp,X (R205). -/
def execStyZpX (zp : Byte) (s : State) : Outcome :=
  storeInstr 2 4 (.zeroPageX zp) storedY s

/-! ### TAX (R206) -/

/-- 0xAA TAX (R206). -/
def execTax (s : State) : Outcome :=
  impliedInstr 1 2 taxOp s

/-! ### TAY (R207) -/

/-- 0xA8 TAY (R207). -/
def execTay (s : State) : Outcome :=
  impliedInstr 1 2 tayOp s

/-! ### TXA (R208) -/

/-- 0x8A TXA (R208). -/
def execTxa (s : State) : Outcome :=
  impliedInstr 1 2 txaOp s

/-! ### TYA (R209) -/

/-- 0x98 TYA (R209). -/
def execTya (s : State) : Outcome :=
  impliedInstr 1 2 tyaOp s

/-! ### TSX (R210) -/

/-- 0xBA TSX (R210). -/
def execTsx (s : State) : Outcome :=
  impliedInstr 1 2 tsxOp s

/-! ### TXS (R211) -/

/-- 0x9A TXS (R211). -/
def execTxs (s : State) : Outcome :=
  impliedInstr 1 2 txsOp s

/-! ### PHA (R212) -/

/-- 0x48 PHA (R212). -/
def execPha (s : State) : Outcome :=
  impliedInstr 1 3 phaOp s

/-! ### PHP (R213) -/

/-- 0x08 PHP (R213). -/
def execPhp (s : State) : Outcome :=
  impliedInstr 1 3 phpOp s

/-! ### PLA (R214) -/

/-- 0x68 PLA (R214). -/
def execPla (s : State) : Outcome :=
  impliedInstr 1 4 plaOp s

/-! ### PLP (R215) -/

/-- 0x28 PLP (R215). -/
def execPlp (s : State) : Outcome :=
  impliedInstr 1 4 plpOp s

end Sys2Proof.Machine
end

