-- ==== Sys2Proof/Machine/Undocumented.lean ====
section
/-! DEFINITION. Undocumented instructions (43_undocumented.md, R310 to R332): the handlers, then one meaning per opcode. SLO,
RLA, SRE, RRA, DCP and ISB are the read-modify-write frame with a shift or a count and then an arithmetic handler. -/

namespace Sys2Proof.Machine

/-! ## Handlers -/

/-- The byte SAX stores (R314). -/
def storedAX (s : State) : Byte := s.a &&& s.x

/-- LAX (R315). -/
def laxM (m : Byte) (s : State) : State := ((s.setA m).setX m).setZN m

/-- ANC (R318). -/
def ancM (m : Byte) (s : State) : State :=
  ((s.setA (s.a &&& m)).setZN (s.a &&& m)).setC ((s.a &&& m).getLsbD 7)

/-- ALR (R319). -/
def alrM (m : Byte) (s : State) : State :=
  let r := lsr (s.a &&& m) s
  (r.2.setA r.1).setZN r.1

/-- ARR (R320): C is bit 6 of the result, V is bit 6 XOR bit 5. -/
def arrM (m : Byte) (s : State) : State :=
  let r := ((s.a &&& m) >>> 1) ||| bitAt s.p.c 7
  (((s.setA r).setZN r).setC (r.getLsbD 6)).setV (r.getLsbD 6 != r.getLsbD 5)

/-- AXS (R321): C as a compare, and the difference goes to X. -/
def axsM (m : Byte) (s : State) : State := (s.compare (s.a &&& s.x) m).setX ((s.a &&& s.x) - m)

/-- LAS (R322). -/
def lasM (m : Byte) (s : State) : State :=
  let r := m &&& s.sp
  (((s.setA r).setX r).setSp r).setZN r

/-- The reading forms of NOP (R323): the value is discarded. -/
def nopM (_m : Byte) (s : State) : State := s

/-- XAA's formula (R326). -/
def xaaM (m : Byte) (s : State) : State :=
  let r := (s.a ||| s.params.magic) &&& s.x &&& m
  (s.setA r).setZN r

/-- LXA's formula (R327). -/
def lxaM (m : Byte) (s : State) : State :=
  let r := (s.a ||| s.params.magic) &&& m
  ((s.setA r).setX r).setZN r

/-- AHX's value from `H` (R328). -/
def ahxStore (h : Byte) (s : State) : Byte × State := (s.a &&& s.x &&& h, s)

/-- TAS's value from `H`, and SP (R329). -/
def tasStore (h : Byte) (s : State) : Byte × State := (s.a &&& s.x &&& h, s.setSp (s.a &&& s.x))

/-- SHY's value from `H` (R330). -/
def shyStore (h : Byte) (s : State) : Byte × State := (s.y &&& h, s)

/-- SHX's value from `H` (R331). -/
def shxStore (h : Byte) (s : State) : Byte × State := (s.x &&& h, s)

/-- `H` (R332): the high byte of the address before indexing, plus 1. -/
def EA.highPlusOne (e : EA) : Byte := highByte e.base + 1

/-- The address the four stores write (R328 to R331): on a page cross its high byte is replaced by the value stored. -/
def EA.replacedHigh (e : EA) (v : Byte) : Word := if e.crossed then wordOf v (lowByte e.addr) else e.addr

/-- The frame of AHX, TAS, SHY and SHX (R328 to R331). -/
def highStoreInstr (size cycles : Nat) (m : AddrMode) (f : Byte → State → Byte × State) (s : State) : Outcome :=
  let e := resolve m s
  let r := f e.highPlusOne (s.advance size cycles)
  (busWrite (e.replacedHigh r.1) r.1 r.2).toOutcome

/-- A halting opcode (R325): `Jam` with the opcode's address, keeping the state at handler entry (R165). -/
def jamInstr (size cycles : Nat) (s : State) : Outcome := .fault (.jam s.pc (s.advance size cycles))

/-- An unstable opcode (R332): refused under `refuse`, its formula under `formula`. -/
def unstableInstr (op : Byte) (formula : State → Outcome) (s : State) : Outcome :=
  match s.params.unstable with
  | .refuse => .refused (.unstableOpcode op)
  | .formula => formula s

/-! ## Meanings -/

/-! ### SLO (R310) -/

/-- 0x03 SLO (zp,X) (R310). -/
def execSloIndX (zp : Byte) (s : State) : Outcome :=
  rmwInstr 2 8 (.indexedIndirect zp) asl orAcc s

/-- 0x07 SLO zp (R310). -/
def execSloZp (zp : Byte) (s : State) : Outcome :=
  rmwInstr 2 5 (.zeroPage zp) asl orAcc s

/-- 0x0F SLO abs (R310). -/
def execSloAbs (addr : Word) (s : State) : Outcome :=
  rmwInstr 3 6 (.absolute addr) asl orAcc s

/-- 0x13 SLO (zp),Y (R310). -/
def execSloIndY (zp : Byte) (s : State) : Outcome :=
  rmwInstr 2 8 (.indirectIndexed zp) asl orAcc s

/-- 0x17 SLO zp,X (R310). -/
def execSloZpX (zp : Byte) (s : State) : Outcome :=
  rmwInstr 2 6 (.zeroPageX zp) asl orAcc s

/-- 0x1B SLO abs,Y (R310). -/
def execSloAbsY (addr : Word) (s : State) : Outcome :=
  rmwInstr 3 7 (.absoluteY addr) asl orAcc s

/-- 0x1F SLO abs,X (R310). -/
def execSloAbsX (addr : Word) (s : State) : Outcome :=
  rmwInstr 3 7 (.absoluteX addr) asl orAcc s

/-! ### RLA (R311) -/

/-- 0x23 RLA (zp,X) (R311). -/
def execRlaIndX (zp : Byte) (s : State) : Outcome :=
  rmwInstr 2 8 (.indexedIndirect zp) rol andAcc s

/-- 0x27 RLA zp (R311). -/
def execRlaZp (zp : Byte) (s : State) : Outcome :=
  rmwInstr 2 5 (.zeroPage zp) rol andAcc s

/-- 0x2F RLA abs (R311). -/
def execRlaAbs (addr : Word) (s : State) : Outcome :=
  rmwInstr 3 6 (.absolute addr) rol andAcc s

/-- 0x33 RLA (zp),Y (R311). -/
def execRlaIndY (zp : Byte) (s : State) : Outcome :=
  rmwInstr 2 8 (.indirectIndexed zp) rol andAcc s

/-- 0x37 RLA zp,X (R311). -/
def execRlaZpX (zp : Byte) (s : State) : Outcome :=
  rmwInstr 2 6 (.zeroPageX zp) rol andAcc s

/-- 0x3B RLA abs,Y (R311). -/
def execRlaAbsY (addr : Word) (s : State) : Outcome :=
  rmwInstr 3 7 (.absoluteY addr) rol andAcc s

/-- 0x3F RLA abs,X (R311). -/
def execRlaAbsX (addr : Word) (s : State) : Outcome :=
  rmwInstr 3 7 (.absoluteX addr) rol andAcc s

/-! ### SRE (R312) -/

/-- 0x43 SRE (zp,X) (R312). -/
def execSreIndX (zp : Byte) (s : State) : Outcome :=
  rmwInstr 2 8 (.indexedIndirect zp) lsr eorAcc s

/-- 0x47 SRE zp (R312). -/
def execSreZp (zp : Byte) (s : State) : Outcome :=
  rmwInstr 2 5 (.zeroPage zp) lsr eorAcc s

/-- 0x4F SRE abs (R312). -/
def execSreAbs (addr : Word) (s : State) : Outcome :=
  rmwInstr 3 6 (.absolute addr) lsr eorAcc s

/-- 0x53 SRE (zp),Y (R312). -/
def execSreIndY (zp : Byte) (s : State) : Outcome :=
  rmwInstr 2 8 (.indirectIndexed zp) lsr eorAcc s

/-- 0x57 SRE zp,X (R312). -/
def execSreZpX (zp : Byte) (s : State) : Outcome :=
  rmwInstr 2 6 (.zeroPageX zp) lsr eorAcc s

/-- 0x5B SRE abs,Y (R312). -/
def execSreAbsY (addr : Word) (s : State) : Outcome :=
  rmwInstr 3 7 (.absoluteY addr) lsr eorAcc s

/-- 0x5F SRE abs,X (R312). -/
def execSreAbsX (addr : Word) (s : State) : Outcome :=
  rmwInstr 3 7 (.absoluteX addr) lsr eorAcc s

/-! ### RRA (R313) -/

/-- 0x63 RRA (zp,X) (R313). -/
def execRraIndX (zp : Byte) (s : State) : Outcome :=
  rmwInstr 2 8 (.indexedIndirect zp) ror addM s

/-- 0x67 RRA zp (R313). -/
def execRraZp (zp : Byte) (s : State) : Outcome :=
  rmwInstr 2 5 (.zeroPage zp) ror addM s

/-- 0x6F RRA abs (R313). -/
def execRraAbs (addr : Word) (s : State) : Outcome :=
  rmwInstr 3 6 (.absolute addr) ror addM s

/-- 0x73 RRA (zp),Y (R313). -/
def execRraIndY (zp : Byte) (s : State) : Outcome :=
  rmwInstr 2 8 (.indirectIndexed zp) ror addM s

/-- 0x77 RRA zp,X (R313). -/
def execRraZpX (zp : Byte) (s : State) : Outcome :=
  rmwInstr 2 6 (.zeroPageX zp) ror addM s

/-- 0x7B RRA abs,Y (R313). -/
def execRraAbsY (addr : Word) (s : State) : Outcome :=
  rmwInstr 3 7 (.absoluteY addr) ror addM s

/-- 0x7F RRA abs,X (R313). -/
def execRraAbsX (addr : Word) (s : State) : Outcome :=
  rmwInstr 3 7 (.absoluteX addr) ror addM s

/-! ### SAX (R314) -/

/-- 0x83 SAX (zp,X) (R314). -/
def execSaxIndX (zp : Byte) (s : State) : Outcome :=
  storeInstr 2 6 (.indexedIndirect zp) storedAX s

/-- 0x87 SAX zp (R314). -/
def execSaxZp (zp : Byte) (s : State) : Outcome :=
  storeInstr 2 3 (.zeroPage zp) storedAX s

/-- 0x8F SAX abs (R314). -/
def execSaxAbs (addr : Word) (s : State) : Outcome :=
  storeInstr 3 4 (.absolute addr) storedAX s

/-- 0x97 SAX zp,Y (R314). -/
def execSaxZpY (zp : Byte) (s : State) : Outcome :=
  storeInstr 2 4 (.zeroPageY zp) storedAX s

/-! ### LAX (R315) -/

/-- 0xA3 LAX (zp,X) (R315). -/
def execLaxIndX (zp : Byte) (s : State) : Outcome :=
  readInstr 2 6 0 (.indexedIndirect zp) laxM s

/-- 0xA7 LAX zp (R315). -/
def execLaxZp (zp : Byte) (s : State) : Outcome :=
  readInstr 2 3 0 (.zeroPage zp) laxM s

/-- 0xAF LAX abs (R315). -/
def execLaxAbs (addr : Word) (s : State) : Outcome :=
  readInstr 3 4 0 (.absolute addr) laxM s

/-- 0xB3 LAX (zp),Y (R315). -/
def execLaxIndY (zp : Byte) (s : State) : Outcome :=
  readInstr 2 5 1 (.indirectIndexed zp) laxM s

/-- 0xB7 LAX zp,Y (R315). -/
def execLaxZpY (zp : Byte) (s : State) : Outcome :=
  readInstr 2 4 0 (.zeroPageY zp) laxM s

/-- 0xBF LAX abs,Y (R315). -/
def execLaxAbsY (addr : Word) (s : State) : Outcome :=
  readInstr 3 4 1 (.absoluteY addr) laxM s

/-! ### DCP (R316) -/

/-- 0xC3 DCP (zp,X) (R316). -/
def execDcpIndX (zp : Byte) (s : State) : Outcome :=
  rmwInstr 2 8 (.indexedIndirect zp) decV cmpM s

/-- 0xC7 DCP zp (R316). -/
def execDcpZp (zp : Byte) (s : State) : Outcome :=
  rmwInstr 2 5 (.zeroPage zp) decV cmpM s

/-- 0xCF DCP abs (R316). -/
def execDcpAbs (addr : Word) (s : State) : Outcome :=
  rmwInstr 3 6 (.absolute addr) decV cmpM s

/-- 0xD3 DCP (zp),Y (R316). -/
def execDcpIndY (zp : Byte) (s : State) : Outcome :=
  rmwInstr 2 8 (.indirectIndexed zp) decV cmpM s

/-- 0xD7 DCP zp,X (R316). -/
def execDcpZpX (zp : Byte) (s : State) : Outcome :=
  rmwInstr 2 6 (.zeroPageX zp) decV cmpM s

/-- 0xDB DCP abs,Y (R316). -/
def execDcpAbsY (addr : Word) (s : State) : Outcome :=
  rmwInstr 3 7 (.absoluteY addr) decV cmpM s

/-- 0xDF DCP abs,X (R316). -/
def execDcpAbsX (addr : Word) (s : State) : Outcome :=
  rmwInstr 3 7 (.absoluteX addr) decV cmpM s

/-! ### ISB (R317) -/

/-- 0xE3 ISB (zp,X) (R317). -/
def execIsbIndX (zp : Byte) (s : State) : Outcome :=
  rmwInstr 2 8 (.indexedIndirect zp) incV subM s

/-- 0xE7 ISB zp (R317). -/
def execIsbZp (zp : Byte) (s : State) : Outcome :=
  rmwInstr 2 5 (.zeroPage zp) incV subM s

/-- 0xEF ISB abs (R317). -/
def execIsbAbs (addr : Word) (s : State) : Outcome :=
  rmwInstr 3 6 (.absolute addr) incV subM s

/-- 0xF3 ISB (zp),Y (R317). -/
def execIsbIndY (zp : Byte) (s : State) : Outcome :=
  rmwInstr 2 8 (.indirectIndexed zp) incV subM s

/-- 0xF7 ISB zp,X (R317). -/
def execIsbZpX (zp : Byte) (s : State) : Outcome :=
  rmwInstr 2 6 (.zeroPageX zp) incV subM s

/-- 0xFB ISB abs,Y (R317). -/
def execIsbAbsY (addr : Word) (s : State) : Outcome :=
  rmwInstr 3 7 (.absoluteY addr) incV subM s

/-- 0xFF ISB abs,X (R317). -/
def execIsbAbsX (addr : Word) (s : State) : Outcome :=
  rmwInstr 3 7 (.absoluteX addr) incV subM s

/-! ### ANC (R318) -/

/-- 0x0B ANC #imm (R318). -/
def execAncImm0B (imm : Byte) (s : State) : Outcome :=
  immInstr 2 2 ancM imm s

/-- 0x2B ANC #imm (R318). -/
def execAncImm2B (imm : Byte) (s : State) : Outcome :=
  immInstr 2 2 ancM imm s

/-! ### ALR (R319) -/

/-- 0x4B ALR #imm (R319). -/
def execAlrImm (imm : Byte) (s : State) : Outcome :=
  immInstr 2 2 alrM imm s

/-! ### ARR (R320) -/

/-- 0x6B ARR #imm (R320). -/
def execArrImm (imm : Byte) (s : State) : Outcome :=
  immInstr 2 2 arrM imm s

/-! ### AXS (R321) -/

/-- 0xCB AXS #imm (R321). -/
def execAxsImm (imm : Byte) (s : State) : Outcome :=
  immInstr 2 2 axsM imm s

/-! ### LAS (R322) -/

/-- 0xBB LAS abs,Y (R322). -/
def execLasAbsY (addr : Word) (s : State) : Outcome :=
  readInstr 3 4 1 (.absoluteY addr) lasM s

/-! ### NOP (R323) -/

/-- 0x04 NOP zp (R323). -/
def execNopZp04 (zp : Byte) (s : State) : Outcome :=
  readInstr 2 3 0 (.zeroPage zp) nopM s

/-- 0x0C NOP abs (R323). -/
def execNopAbs (addr : Word) (s : State) : Outcome :=
  readInstr 3 4 0 (.absolute addr) nopM s

/-- 0x14 NOP zp,X (R323). -/
def execNopZpX14 (zp : Byte) (s : State) : Outcome :=
  readInstr 2 4 0 (.zeroPageX zp) nopM s

/-- 0x1A NOP (R323). -/
def execNopImp1A (s : State) : Outcome :=
  impliedInstr 1 2 nopOp s

/-- 0x1C NOP abs,X (R323). -/
def execNopAbsX1C (addr : Word) (s : State) : Outcome :=
  readInstr 3 4 1 (.absoluteX addr) nopM s

/-- 0x34 NOP zp,X (R323). -/
def execNopZpX34 (zp : Byte) (s : State) : Outcome :=
  readInstr 2 4 0 (.zeroPageX zp) nopM s

/-- 0x3A NOP (R323). -/
def execNopImp3A (s : State) : Outcome :=
  impliedInstr 1 2 nopOp s

/-- 0x3C NOP abs,X (R323). -/
def execNopAbsX3C (addr : Word) (s : State) : Outcome :=
  readInstr 3 4 1 (.absoluteX addr) nopM s

/-- 0x44 NOP zp (R323). -/
def execNopZp44 (zp : Byte) (s : State) : Outcome :=
  readInstr 2 3 0 (.zeroPage zp) nopM s

/-- 0x54 NOP zp,X (R323). -/
def execNopZpX54 (zp : Byte) (s : State) : Outcome :=
  readInstr 2 4 0 (.zeroPageX zp) nopM s

/-- 0x5A NOP (R323). -/
def execNopImp5A (s : State) : Outcome :=
  impliedInstr 1 2 nopOp s

/-- 0x5C NOP abs,X (R323). -/
def execNopAbsX5C (addr : Word) (s : State) : Outcome :=
  readInstr 3 4 1 (.absoluteX addr) nopM s

/-- 0x64 NOP zp (R323). -/
def execNopZp64 (zp : Byte) (s : State) : Outcome :=
  readInstr 2 3 0 (.zeroPage zp) nopM s

/-- 0x74 NOP zp,X (R323). -/
def execNopZpX74 (zp : Byte) (s : State) : Outcome :=
  readInstr 2 4 0 (.zeroPageX zp) nopM s

/-- 0x7A NOP (R323). -/
def execNopImp7A (s : State) : Outcome :=
  impliedInstr 1 2 nopOp s

/-- 0x7C NOP abs,X (R323). -/
def execNopAbsX7C (addr : Word) (s : State) : Outcome :=
  readInstr 3 4 1 (.absoluteX addr) nopM s

/-- 0x80 NOP #imm (R323). -/
def execNopImm80 (imm : Byte) (s : State) : Outcome :=
  immInstr 2 2 nopM imm s

/-- 0x82 NOP #imm (R323). -/
def execNopImm82 (imm : Byte) (s : State) : Outcome :=
  immInstr 2 2 nopM imm s

/-- 0x89 NOP #imm (R323). -/
def execNopImm89 (imm : Byte) (s : State) : Outcome :=
  immInstr 2 2 nopM imm s

/-- 0xC2 NOP #imm (R323). -/
def execNopImmC2 (imm : Byte) (s : State) : Outcome :=
  immInstr 2 2 nopM imm s

/-- 0xD4 NOP zp,X (R323). -/
def execNopZpXD4 (zp : Byte) (s : State) : Outcome :=
  readInstr 2 4 0 (.zeroPageX zp) nopM s

/-- 0xDA NOP (R323). -/
def execNopImpDA (s : State) : Outcome :=
  impliedInstr 1 2 nopOp s

/-- 0xDC NOP abs,X (R323). -/
def execNopAbsXDC (addr : Word) (s : State) : Outcome :=
  readInstr 3 4 1 (.absoluteX addr) nopM s

/-- 0xE2 NOP #imm (R323). -/
def execNopImmE2 (imm : Byte) (s : State) : Outcome :=
  immInstr 2 2 nopM imm s

/-- 0xF4 NOP zp,X (R323). -/
def execNopZpXF4 (zp : Byte) (s : State) : Outcome :=
  readInstr 2 4 0 (.zeroPageX zp) nopM s

/-- 0xFA NOP (R323). -/
def execNopImpFA (s : State) : Outcome :=
  impliedInstr 1 2 nopOp s

/-- 0xFC NOP abs,X (R323). -/
def execNopAbsXFC (addr : Word) (s : State) : Outcome :=
  readInstr 3 4 1 (.absoluteX addr) nopM s

/-! ### SBC (R324) -/

/-- 0xEB SBC #imm (R324). -/
def execSbcImmEB (imm : Byte) (s : State) : Outcome :=
  immInstr 2 2 subM imm s

/-! ### JAM (R325) -/

/-- 0x02 JAM (R325). -/
def execJam02 (s : State) : Outcome :=
  jamInstr 1 2 s

/-- 0x12 JAM (R325). -/
def execJam12 (s : State) : Outcome :=
  jamInstr 1 2 s

/-- 0x22 JAM (R325). -/
def execJam22 (s : State) : Outcome :=
  jamInstr 1 2 s

/-- 0x32 JAM (R325). -/
def execJam32 (s : State) : Outcome :=
  jamInstr 1 2 s

/-- 0x42 JAM (R325). -/
def execJam42 (s : State) : Outcome :=
  jamInstr 1 2 s

/-- 0x52 JAM (R325). -/
def execJam52 (s : State) : Outcome :=
  jamInstr 1 2 s

/-- 0x62 JAM (R325). -/
def execJam62 (s : State) : Outcome :=
  jamInstr 1 2 s

/-- 0x72 JAM (R325). -/
def execJam72 (s : State) : Outcome :=
  jamInstr 1 2 s

/-- 0x92 JAM (R325). -/
def execJam92 (s : State) : Outcome :=
  jamInstr 1 2 s

/-- 0xB2 JAM (R325). -/
def execJamB2 (s : State) : Outcome :=
  jamInstr 1 2 s

/-- 0xD2 JAM (R325). -/
def execJamD2 (s : State) : Outcome :=
  jamInstr 1 2 s

/-- 0xF2 JAM (R325). -/
def execJamF2 (s : State) : Outcome :=
  jamInstr 1 2 s

/-! ### XAA (R326) -/

/-- 0x8B XAA #imm (R326). -/
def execXaaImm (imm : Byte) (s : State) : Outcome :=
  unstableInstr 0x8B (immInstr 2 2 xaaM imm) s

/-! ### LXA (R327) -/

/-- 0xAB LXA #imm (R327). -/
def execLxaImm (imm : Byte) (s : State) : Outcome :=
  unstableInstr 0xAB (immInstr 2 2 lxaM imm) s

/-! ### AHX (R328) -/

/-- 0x93 AHX (zp),Y (R328). -/
def execAhxIndY (zp : Byte) (s : State) : Outcome :=
  unstableInstr 0x93 (highStoreInstr 2 6 (.indirectIndexed zp) ahxStore) s

/-- 0x9F AHX abs,Y (R328). -/
def execAhxAbsY (addr : Word) (s : State) : Outcome :=
  unstableInstr 0x9F (highStoreInstr 3 5 (.absoluteY addr) ahxStore) s

/-! ### TAS (R329) -/

/-- 0x9B TAS abs,Y (R329). -/
def execTasAbsY (addr : Word) (s : State) : Outcome :=
  unstableInstr 0x9B (highStoreInstr 3 5 (.absoluteY addr) tasStore) s

/-! ### SHY (R330) -/

/-- 0x9C SHY abs,X (R330). -/
def execShyAbsX (addr : Word) (s : State) : Outcome :=
  unstableInstr 0x9C (highStoreInstr 3 5 (.absoluteX addr) shyStore) s

/-! ### SHX (R331) -/

/-- 0x9E SHX abs,Y (R331). -/
def execShxAbsY (addr : Word) (s : State) : Outcome :=
  unstableInstr 0x9E (highStoreInstr 3 5 (.absoluteY addr) shxStore) s

end Sys2Proof.Machine
end

