-- ==== Sys2Proof/Machine/Schedule.lean ====
section
/-! DEFINITION. The instruction fetch (R165), the CPU step with its stall and interrupts (R508, R515), the console step that
runs three PPU dots per CPU cycle (R520), and where a program's bytes are placed so that a step fetches them. -/

namespace Sys2Proof.Machine

/-! ## Fetching an instruction -/

/-- The instruction the fetched bytes make; R160's fault if the opcode has no row. -/
def fetchedInstr (op b1 b2 : Byte) (s : State) : Res Instr :=
  match decodeBytes op b1 b2 with
  | some i => .ok i s
  | none => .stop (.unknownOpcode op s)

/-- The opcode takes an immediate byte: the handler reads it, after the frame has advanced PC and counted the cycles (R146,
R165). -/
def handlerReads (op : Byte) : Bool :=
  match descriptor? op with
  | some d => d.mode == .immediate
  | none => false

/-- The state at handler entry of an opcode (R165). -/
def handlerEntry (op : Byte) (s : State) : State :=
  match descriptor? op with
  | some d => s.advance d.size d.cycles
  | none => s

/-- The opcode is one of the seven unstable ones (R332). -/
def isUnstable (op : Byte) : Bool :=
  match descriptor? op with
  | some d => d.standing == .unstable
  | none => false

/-- The handler refuses before it reads its immediate byte: XAA and LXA under `refuse` (R326, R327). -/
def refusesUnread (op : Byte) (s : State) : Bool :=
  (s.params.unstable == .refuse) && (handlerReads op && isUnstable op)

/-- The byte at `a` after the opcode, one CPU-bus read. Where the handler reads it, a fault keeps the state at handler entry,
and there is none if the handler refuses first. -/
def operandByte (op : Byte) (a : Word) (s : State) : Res Byte :=
  match busRead a s with
  | .ok b t => .ok b t
  | .stop f =>
    if refusesUnread op s then .ok 0 s
    else if handlerReads op then .stop (f.keep (handlerEntry op s))
    else .stop f

/-- The opcode byte at PC and the operand bytes after it, each one CPU-bus read with its side effects (R87, R125, R165);
PC itself is advanced by the instruction's frame. -/
def fetch (s : State) : Res Instr :=
  (busRead s.pc s).andThen fun op t =>
    if operandCount op = 0 then fetchedInstr op 0 0 t
    else (operandByte op (s.pc + 1) t).andThen fun b1 u =>
      if operandCount op = 1 then fetchedInstr op b1 0 u
      else (busRead (s.pc + 2) u).andThen fun b2 w => fetchedInstr op b1 b2 w

/-- `InstrStep()` (R165): fetch, then the meaning of the instruction fetched; a fault keeps the state it was raised in. -/
def instrStep (s : State) : Outcome :=
  match fetch s with
  | .ok i t => exec i t
  | .stop f => .fault f

/-! ## The CPU step and the console step -/

/-- The level of `irq_line` at this CPU step (R48): the head of the input stream, low once it is empty. -/
def State.irqLine (s : State) : Bool := s.irqInputs.headD false

/-- The input of this CPU step is used up (R48). -/
def State.dropInput (s : State) : State := { s with irqInputs := s.irqInputs.tail }

/-- One cycle of a DMA stall (R515). -/
def State.stallCycle (s : State) : State := { s with stall := s.stall - 1, cycles := s.cycles + 1 }

/-- `nmi_pending <- 0` (R515). -/
def State.clearNmi (s : State) : State := { s with nmiPending := false }

/-- `CpuStep()` (R508, R515): a stall cycle, else the NMI, else an unmasked IRQ, else one instruction. -/
def cpuStep (s : State) : Outcome :=
  if 0 < s.stall then .next s.dropInput.stallCycle
  else if s.nmiPending then (takeInterrupt 0xFFFA s.dropInput.clearNmi).toOutcome
  else if s.irqLine ∧ s.p.i = false then (takeInterrupt 0xFFFE s.dropInput).toOutcome
  else instrStep s.dropInput

/-- `ConsoleStep()` (R520): the CPU step, then three dots per cycle it took; no dot if it faults or refuses (R503). -/
def consoleStep (s : State) : Outcome :=
  match cpuStep s with
  | .next t => .next (runDots (3 * (t.cycles - s.cycles)) t)
  | .fault f => .fault f
  | .refused r => .refused r

/-! ## Placing an instruction where the next step fetches it -/

/-- `a` names a byte that can be placed: RAM, PRG-RAM, or PRG-ROM inside its array. -/
def placeable (s : State) (a : Word) : Bool :=
  decide (a.toNat ≤ 0x1FFF) || (decide (0x6000 ≤ a.toNat) && decide (a.toNat ≤ 0x7FFF)) ||
    (decide (0x8000 ≤ a.toNat) && decide (prgOffset s a < 16384 * s.cart.prgBanks))

/-- The byte at a placeable address is `v`; a PRG-ROM byte is set as the cartridge's value, not by a CPU write. -/
def placeByte (a : Word) (v : Byte) (s : State) : State :=
  if a.toNat ≤ 0x1FFF then s.writeRam a v
  else if a.toNat ≤ 0x7FFF then s.writePrgRam a v
  else { s with cart := { s.cart with prgRom := s.cart.prgRom.write (prgOffset s a) v } }

/-- The next step runs an instruction: no stall, no NMI, no IRQ, and PC at three placeable addresses (0x0000 if it is
not). -/
def readyToFetch (s : State) : State :=
  let t := { s with
    stall := 0
    nmiPending := false
    irqInputs := match s.irqInputs with
      | true :: rest => false :: rest
      | level => level }
  if placeable s s.pc && placeable s (s.pc + 1) && placeable s (s.pc + 2) then t else t.setPc 0

/-- The three bytes of an instruction numbered as the opcode table numbers them, at PC and after it. -/
def placeInstruction (nbits w : Nat) (s : State) : State :=
  let t := readyToFetch s
  placeByte (t.pc + 2) (tableByte nbits w 2) (placeByte (t.pc + 1) (tableByte nbits w 1) (placeByte t.pc (tableByte nbits w 0) t))

end Sys2Proof.Machine
end

