-- ==== Sys2Proof/Machine/Step.lean ====
section
/-! DEFINITION. The step of the machine, one console step (R520), and the placing of an instruction for it to fetch. -/

namespace Sys2Proof.Machine

/-- One step of the CORE (R520). -/
def step (s : State) : Host.Outcome State Fault Refusal := consoleStep s

/-- `s` with the instruction whose bits are `w` stored where `step` fetches its next instruction (log entry 8). -/
def State.withFetchWord (s : State) (nbits w : Nat) : State := placeInstruction nbits w s

end Sys2Proof.Machine
end

