-- ==== Sys2Proof/Safety.lean ====
section
/-! DEFINITION. What claims are stated in: the plain bytes of CPU memory, the addresses that fault, the operand of an
instruction and the frame it runs in, the invariant of every console, and a run that does not stop. -/

namespace Sys2Proof.Machine

/-! ## Plain CPU memory -/

/-- The byte at a CPU address whose read has no side effect: RAM, PRG-RAM and PRG-ROM (R97). None for a device register,
an address that faults, and a PRG-ROM offset outside its array. -/
def peek (s : State) (a : Word) : Option Byte :=
  if a.toNat ≤ 0x1FFF then some (s.ram.read (ramIndex a))
  else if a.toNat ≤ 0x5FFF then none
  else if a.toNat ≤ 0x7FFF then some (s.prgRam.read (prgRamIndex a))
  else if prgOffset s a < 16384 * s.cart.prgBanks then some (s.cart.prgRom.read (prgOffset s a))
  else none

/-- The unimplemented region 0x4018-0x5FFF (R93). -/
def unimplemented (a : Word) : Bool := decide (0x4018 ≤ a.toNat) && decide (a.toNat ≤ 0x5FFF)

/-- A CPU write of `v` to `a` that does not fault: not in the unimplemented region, and for an OAM DMA (R416) a source page
whose 256 bytes are all outside it (R127). -/
def storable (a : Word) (v : Byte) : Bool :=
  !unimplemented a && !(a == 0x4014 && decide (0x40 ≤ v.toNat) && decide (v.toNat ≤ 0x5F))

/-- Two CPU addresses name the same byte of RAM (R89) or are equal. -/
def sameByte (a b : Word) : Bool :=
  a == b || (decide (a.toNat ≤ 0x1FFF) && decide (b.toNat ≤ 0x1FFF) && ramIndex a == ramIndex b)

/-- `a` is an address of the stack page, page 1 (R84). -/
def inStackPage (a : Word) : Bool := highByte a == 1

/-! ## An instruction's operand and frame, read off the opcode table -/

/-- The memory addressing mode of an instruction with its operand bytes (R143 to R154); none for an instruction with no
memory operand. -/
def memMode (i : Instr) : Option AddrMode := i.descriptor?.bind fun d => addrModeOf d.mode (encode i).tail

/-- The effective address of an instruction with a memory operand (R147 to R154). -/
def operandAddr (i : Instr) (s : State) : Word :=
  match memMode i with
  | some m => (resolve m s).addr
  | none => 0

/-- The page-cross flag of an instruction's address resolution (R165). -/
def pageCrossed (i : Instr) (s : State) : Bool :=
  match memMode i with
  | some m => (resolve m s).crossed
  | none => false

/-- The state at handler entry (R165): PC past the instruction, and the cycles of its row of the opcode table counted. -/
def afterFrame (i : Instr) (s : State) : State :=
  match i.descriptor? with
  | some d => { s with
      pc := s.pc + BitVec.ofNat 16 d.size
      cycles := s.cycles + (d.cycles + if pageCrossed i s then d.pageCross else 0) }
  | none => s

/-- In its frame, `i` reads the operand byte `v` and leaves `t`: its immediate byte, or one CPU-bus read at its effective
address (R146, R166). -/
def ReadsOperand (i : Instr) (s : State) (v : Byte) (t : State) : Prop :=
  match memMode i with
  | some m => busRead (resolve m s).addr (afterFrame i s) = .ok v t
  | none => (encode i).tail = [v] ∧ t = afterFrame i s

/-- The operand read of `i` does not fault (R93). -/
def operandReadable (i : Instr) (s : State) : Bool :=
  match memMode i with
  | some m => !unimplemented (resolve m s).addr
  | none => true

/-- `SetZN(r)` (R18) in integers: Z for zero, N for a value of 128 or more. -/
def Status.zn (p : Status) (r : Byte) : Status :=
  { p with z := decide (r.toNat = 0), n := decide (128 ≤ r.toNat) }

/-- `n` CPU-bus reads at consecutive addresses from `a` on. -/
def busReadBytes : Nat → Word → State → Res (List Byte)
  | 0, _, s => .ok [] s
  | n + 1, a, s => (busRead a s).andThen fun b t => (busReadBytes n (a + 1) t).andThen fun bs u => .ok (b :: bs) u

/-- A step's outcome after its CPU part: three dots per cycle counted since `start`, none if it stopped (R520). -/
def withDots (start : Nat) (o : Outcome) : Outcome :=
  match o with
  | .next t => .next (runDots (3 * (t.cycles - start)) t)
  | .fault f => .fault f
  | .refused r => .refused r

/-- The next step runs an instruction: no stall, no NMI and no unmasked IRQ (R508, R515). -/
structure RunsInstruction (s : State) : Prop where
  stall : s.stall = 0
  nmi : s.nmiPending = false
  irq : s.irqLine = false ∨ s.p.i = true

/-! ## The invariant -/

/-- A cell list in canonical form with every index inside an array of `n` cells. -/
def Cells.good {w : Nat} (n : Nat) (m : Cells w) : Bool := m.wf && m.below n

/-- A cartridge that R102 admits, with its arrays in canonical form. -/
structure Cart.Admitted (c : Cart) : Prop where
  prgRom : c.prgRom.good (16384 * c.prgBanks) = true
  chr : c.chr.good c.chrSize = true
  chrBanks : c.chrBanks ≤ 1
  prgBanks : 1 ≤ c.prgBanks
  nrom : c.mapper = .nrom → c.prgBanks ≤ 2

/-- The PPU's fields are in range (R57, R60 to R63), and the NMI edge detector has seen the present condition (R61). -/
structure Ppu.InRange (p : Ppu) : Prop where
  oam : p.oam.good 256 = true
  pal : p.pal.good 32 = true
  palAlias : ∀ cell ∈ p.pal, cell.1 ≠ 16 ∧ cell.1 ≠ 20 ∧ cell.1 ≠ 24 ∧ cell.1 ≠ 28
  ciram : p.ciram.good 2048 = true
  dot : p.dot ≤ 340
  scanline : p.scanline ≤ 261
  attr : p.bg.attr &&& 3 = 0
  sprCount : p.sprCount ≤ 8
  nmiPrevious : p.nmiPrevious = (p.ctrl.nmiOutput && p.vblank)

/-- What holds of every console that runs: memories canonical and inside their arrays, an admitted cartridge, a bank that
exists, PPU fields in range, the NMI delay at least one dot and the countdown never above it. -/
structure State.Inv (s : State) : Prop where
  ram : s.ram.good 2048 = true
  prgRam : s.prgRam.good s.cart.prgRamSize = true
  cart : s.cart.Admitted
  bank : s.bankSel < s.cart.prgBanks
  ppu : s.ppu.InRange
  delay : 1 ≤ s.params.nmiDelayDots
  countdown : s.ppu.nmiDelay ≤ s.params.nmiDelayDots

/-! ## Safe runs -/

/-- A step that neither faults nor refuses. -/
def Completes (o : Outcome) : Prop := ∃ t, o = .next t

/-- `n` steps from `s` without a fault or a refusal (R521). -/
def SafeRun (n : Nat) (s : State) : Prop := ∃ t, Sys2Proof.core.run n s = .next t

end Sys2Proof.Machine
end

