-- ==== Sys2Proof/Certificates/Slice0/Obligations.lean ====
section
/-! DEFINITION. The statements for the provers. First the words they are stated in: the forms of each instruction, what an
instruction's result is in integers, and the shapes of a statement about one group of instructions. Then the obligations, in
the order of OBLIGATIONS.json. -/

namespace Sys2Proof.Machine

/-! ## The forms of each instruction, at an operand byte `b` and an operand word `w` -/

/-- Every form of LDA. -/
def ldaForms (b : Byte) (w : Word) : List Instr :=
  [ .ldaIndX b, .ldaZp b, .ldaImm b, .ldaAbs w, .ldaIndY b, .ldaZpX b, .ldaAbsY w, .ldaAbsX w ]

/-- Every form of LDX. -/
def ldxForms (b : Byte) (w : Word) : List Instr := [.ldxImm b, .ldxZp b, .ldxAbs w, .ldxZpY b, .ldxAbsY w]

/-- Every form of LDY. -/
def ldyForms (b : Byte) (w : Word) : List Instr := [.ldyImm b, .ldyZp b, .ldyAbs w, .ldyZpX b, .ldyAbsX w]

/-- Every form of ADC. -/
def adcForms (b : Byte) (w : Word) : List Instr :=
  [ .adcIndX b, .adcZp b, .adcImm b, .adcAbs w, .adcIndY b, .adcZpX b, .adcAbsY w, .adcAbsX w ]

/-- Every form of SBC. -/
def sbcForms (b : Byte) (w : Word) : List Instr :=
  [ .sbcIndX b, .sbcZp b, .sbcImm b, .sbcImmEB b, .sbcAbs w, .sbcIndY b, .sbcZpX b, .sbcAbsY w, .sbcAbsX w ]

/-- Every form of AND. -/
def andForms (b : Byte) (w : Word) : List Instr :=
  [ .andIndX b, .andZp b, .andImm b, .andAbs w, .andIndY b, .andZpX b, .andAbsY w, .andAbsX w ]

/-- Every form of ORA. -/
def oraForms (b : Byte) (w : Word) : List Instr :=
  [ .oraIndX b, .oraZp b, .oraImm b, .oraAbs w, .oraIndY b, .oraZpX b, .oraAbsY w, .oraAbsX w ]

/-- Every form of EOR. -/
def eorForms (b : Byte) (w : Word) : List Instr :=
  [ .eorIndX b, .eorZp b, .eorImm b, .eorAbs w, .eorIndY b, .eorZpX b, .eorAbsY w, .eorAbsX w ]

/-- Every form of CMP. -/
def cmpForms (b : Byte) (w : Word) : List Instr :=
  [ .cmpIndX b, .cmpZp b, .cmpImm b, .cmpAbs w, .cmpIndY b, .cmpZpX b, .cmpAbsY w, .cmpAbsX w ]

/-- Every form of CPX. -/
def cpxForms (b : Byte) (w : Word) : List Instr := [.cpxImm b, .cpxZp b, .cpxAbs w]

/-- Every form of CPY. -/
def cpyForms (b : Byte) (w : Word) : List Instr := [.cpyImm b, .cpyZp b, .cpyAbs w]

/-- Every form of BIT. -/
def bitForms (b : Byte) (w : Word) : List Instr := [.bitZp b, .bitAbs w]

/-- Every form of LAX. -/
def laxForms (b : Byte) (w : Word) : List Instr := [.laxIndX b, .laxZp b, .laxAbs w, .laxIndY b, .laxZpY b, .laxAbsY w]

/-- Every form of STA. -/
def staForms (b : Byte) (w : Word) : List Instr :=
  [ .staIndX b, .staZp b, .staAbs w, .staIndY b, .staZpX b, .staAbsY w, .staAbsX w ]

/-- Every form of STX. -/
def stxForms (b : Byte) (w : Word) : List Instr := [.stxZp b, .stxAbs w, .stxZpY b]

/-- Every form of STY. -/
def styForms (b : Byte) (w : Word) : List Instr := [.styZp b, .styAbs w, .styZpX b]

/-- Every form of SAX. -/
def saxForms (b : Byte) (w : Word) : List Instr := [.saxIndX b, .saxZp b, .saxAbs w, .saxZpY b]

/-- Every form of INC on memory. -/
def incForms (b : Byte) (w : Word) : List Instr := [.incZp b, .incAbs w, .incZpX b, .incAbsX w]

/-- Every form of DEC on memory. -/
def decForms (b : Byte) (w : Word) : List Instr := [.decZp b, .decAbs w, .decZpX b, .decAbsX w]

/-- Every form of ASL on memory. -/
def aslForms (b : Byte) (w : Word) : List Instr := [.aslZp b, .aslAbs w, .aslZpX b, .aslAbsX w]

/-- Every form of LSR on memory. -/
def lsrForms (b : Byte) (w : Word) : List Instr := [.lsrZp b, .lsrAbs w, .lsrZpX b, .lsrAbsX w]

/-- Every form of ROL on memory. -/
def rolForms (b : Byte) (w : Word) : List Instr := [.rolZp b, .rolAbs w, .rolZpX b, .rolAbsX w]

/-- Every form of ROR on memory. -/
def rorForms (b : Byte) (w : Word) : List Instr := [.rorZp b, .rorAbs w, .rorZpX b, .rorAbsX w]

/-- Every form of SLO. -/
def sloForms (b : Byte) (w : Word) : List Instr :=
  [ .sloIndX b, .sloZp b, .sloAbs w, .sloIndY b, .sloZpX b, .sloAbsY w, .sloAbsX w ]

/-- Every form of RLA. -/
def rlaForms (b : Byte) (w : Word) : List Instr :=
  [ .rlaIndX b, .rlaZp b, .rlaAbs w, .rlaIndY b, .rlaZpX b, .rlaAbsY w, .rlaAbsX w ]

/-- Every form of SRE. -/
def sreForms (b : Byte) (w : Word) : List Instr :=
  [ .sreIndX b, .sreZp b, .sreAbs w, .sreIndY b, .sreZpX b, .sreAbsY w, .sreAbsX w ]

/-- Every form of RRA. -/
def rraForms (b : Byte) (w : Word) : List Instr :=
  [ .rraIndX b, .rraZp b, .rraAbs w, .rraIndY b, .rraZpX b, .rraAbsY w, .rraAbsX w ]

/-- Every form of DCP. -/
def dcpForms (b : Byte) (w : Word) : List Instr :=
  [ .dcpIndX b, .dcpZp b, .dcpAbs w, .dcpIndY b, .dcpZpX b, .dcpAbsY w, .dcpAbsX w ]

/-- Every form of ISB. -/
def isbForms (b : Byte) (w : Word) : List Instr :=
  [ .isbIndX b, .isbZp b, .isbAbs w, .isbIndY b, .isbZpX b, .isbAbsY w, .isbAbsX w ]

/-- Every NOP that reads an operand byte. -/
def readingNopForms (b : Byte) (w : Word) : List Instr :=
  [ .nopZp04 b, .nopAbs w, .nopZpX14 b, .nopAbsX1C w, .nopZpX34 b, .nopAbsX3C w, .nopZp44 b, .nopZpX54 b,
    .nopAbsX5C w, .nopZp64 b, .nopZpX74 b, .nopAbsX7C w, .nopImm80 b, .nopImm82 b, .nopImm89 b,
    .nopImmC2 b, .nopZpXD4 b, .nopAbsXDC w, .nopImmE2 b, .nopZpXF4 b, .nopAbsXFC w ]

/-- Every NOP without an operand byte. -/
def plainNopForms : List Instr := [.nopImp1A, .nopImp3A, .nopImp5A, .nopImp7A, .nopImpDA, .nop, .nopImpFA]

/-- The twelve halting instructions. -/
def jamForms : List Instr :=
  [.jam02, .jam12, .jam22, .jam32, .jam42, .jam52, .jam62, .jam72, .jam92, .jamB2, .jamD2, .jamF2]

/-- The seven unstable opcodes (R332). -/
def unstableForms (b : Byte) (w : Word) : List Instr :=
  [ .xaaImm b, .ahxIndY b, .tasAbsY w, .shyAbsX w, .shxAbsY w, .ahxAbsY w, .lxaImm b ]

/-! ## Shapes -/

/-- `i` completes: in its frame it reads the operand byte `v`, leaving `t`, and its next state is `result v t`. -/
def ReadsThen (i : Instr) (s : State) (result : Byte → State → State) : Prop :=
  ∃ v t, ReadsOperand i s v t ∧ exec i s = .next (result v t)

/-- Every form completes by reading its operand, whenever that read does not fault. -/
def AllRead (forms : List Instr) (s : State) (result : Byte → State → State) : Prop :=
  ∀ i ∈ forms, operandReadable i s = true → ReadsThen i s result

/-- Every form completes by one CPU-bus write of `v` at its effective address in its frame, whenever that write does not
fault. -/
def AllStore (forms : List Instr) (s : State) (v : Byte) : Prop :=
  ∀ i ∈ forms, storable (operandAddr i s) v = true →
    ∃ t, busWrite (operandAddr i s) v (afterFrame i s) = .ok () t ∧ exec i s = .next t

/-- Every form completes by one read of `v`, one write of `r v C` at the same address with C first set to `carry v C`, and
then `after` with the byte written, whenever neither access faults. -/
def AllRmw (forms : List Instr) (s : State) (r : Byte → Bool → Byte) (carry : Byte → Bool → Bool)
    (after : Byte → State → State) : Prop :=
  ∀ i ∈ forms, operandReadable i s = true →
    (∀ v t, ReadsOperand i s v t → storable (operandAddr i s) (r v t.p.c) = true) →
    ∃ v t u, ReadsOperand i s v t ∧
      busWrite (operandAddr i s) (r v t.p.c) { t with p := { t.p with c := carry v t.p.c } } = .ok () u ∧
      exec i s = .next (after (r v t.p.c) u)

/-! ## Results in integers -/

/-- `A + m + C` in binary (R231, R235): C beyond 255, V beyond the signed range, whatever D holds (R234). -/
def binaryAdd (m : Byte) (t : State) : State :=
  let sum := t.a.toNat + m.toNat + t.p.c.toNat
  let signed := t.a.toInt + m.toInt + (t.p.c.toNat : Int)
  { t with
    a := BitVec.ofNat 8 sum
    p := { t.p.zn (BitVec.ofNat 8 sum) with c := decide (256 ≤ sum), v := decide (signed < -128 ∨ 127 < signed) } }

/-- `A - m - (1 - C)` in binary (R236): C for no borrow, V beyond the signed range, whatever D holds (R234). -/
def binarySub (m : Byte) (t : State) : State :=
  let diff := (t.a.toNat : Int) - m.toNat - (1 - (t.p.c.toNat : Int))
  let signed := t.a.toInt - m.toInt - (1 - (t.p.c.toNat : Int))
  { t with
    a := BitVec.ofInt 8 diff
    p := { t.p.zn (BitVec.ofInt 8 diff) with c := decide (0 ≤ diff), v := decide (signed < -128 ∨ 127 < signed) } }

/-- The flags of a compare of `r` with `m` (R232): C for `r ≥ m`, Z and N of the difference, V unchanged. -/
def comparison (r m : Byte) (p : Status) : Status :=
  { p.zn (BitVec.ofInt 8 ((r.toNat : Int) - m.toNat)) with c := decide (m.toNat ≤ r.toNat) }

/-- The byte shifted left with `low` entering (R233). -/
def shiftedLeft (v : Byte) (low : Bool) : Byte := BitVec.ofNat 8 (2 * v.toNat + low.toNat)

/-- The byte shifted right with `high` entering (R233). -/
def shiftedRight (v : Byte) (high : Bool) : Byte := BitVec.ofNat 8 (v.toNat / 2 + 128 * high.toNat)

/-- Bit 7, the bit a left shift moves into C. -/
def topBit (v : Byte) : Bool := decide (128 ≤ v.toNat)

/-- Bit 0, the bit a right shift moves into C. -/
def lowBit (v : Byte) : Bool := decide (v.toNat % 2 = 1)

/-- P as a byte with bit 4 set to `brk` (R44, R40). -/
def statusByte (p : Status) (brk : Bool) : Byte :=
  BitVec.ofNat 8 (128 * p.n.toNat + 64 * p.v.toNat + 32 + 16 * brk.toNat + 8 * p.d.toNat + 4 * p.i.toNat +
    2 * p.z.toNat + p.c.toNat)

/-- P from a byte; bits 4 and 5 are ignored (R44). -/
def statusOf (b : Byte) : Status :=
  { c := b.toNat.testBit 0, z := b.toNat.testBit 1, i := b.toNat.testBit 2, d := b.toNat.testBit 3,
    v := b.toNat.testBit 6, n := b.toNat.testBit 7 }

/-- The RAM index of the stack byte at SP value `sp` (R17, R84). -/
def stackIndex (sp : Byte) : Nat := 256 + sp.toNat

/-- RAM after `Push16(w)` at SP value `sp` (R17, R82). -/
def pushedWord (m : Memory) (sp : Byte) (w : Word) : Memory :=
  (m.write (stackIndex sp) (BitVec.ofNat 8 (w.toNat / 256))).write (stackIndex (sp - 1)) (BitVec.ofNat 8 w.toNat)

/-- The word a pull of two bytes at SP value `sp` gives (R17). -/
def pulledWord (m : Memory) (sp : Byte) : Word :=
  BitVec.ofNat 16 (256 * (m.read (stackIndex (sp + 2))).toNat + (m.read (stackIndex (sp + 1))).toNat)

/-- The state after an interrupt frame is pushed and I set: return address `ret`, then P with bit 4 `brk` (R282, R509). -/
def interruptFrame (ret : Word) (brk : Bool) (s : State) : State :=
  { s with
    ram := (pushedWord s.ram s.sp ret).write (stackIndex (s.sp - 2)) (statusByte s.p brk)
    sp := s.sp - 3
    p := { s.p with i := true } }

/-- A branch (R270, R571): `taken` or not, from the branch's own address. -/
def branched (taken : Bool) (off : Int) (s : State) : State :=
  let next := s.pc + 2
  let target := BitVec.ofInt 16 (s.pc.toNat + 2 + off)
  if taken then
    { s with pc := target, cycles := s.cycles + (if next.toNat / 256 = target.toNat / 256 then 3 else 4) }
  else { s with pc := next, cycles := s.cycles + 2 }

/-- `H` of R332: one more than the high byte of the address before indexing. -/
def highPlusOne (i : Instr) (s : State) : Byte :=
  match memMode i with
  | some m => BitVec.ofNat 8 ((resolve m s).base.toNat / 256 + 1)
  | none => 0

/-- The address AHX, TAS, SHX and SHY write `v` to (R328 to R331): its high byte is `v` on a page cross. -/
def highStoreAddr (i : Instr) (s : State) (v : Byte) : Word :=
  if pageCrossed i s then BitVec.ofNat 16 (256 * v.toNat + (operandAddr i s).toNat % 256) else operandAddr i s

/-- `i` completes by one write of `v` at `highStoreAddr`, with SP first set to `sp`, whenever that write does not fault. -/
def HighStores (i : Instr) (s : State) (v sp : Byte) : Prop :=
  storable (highStoreAddr i s v) v = true →
    ∃ t, busWrite (highStoreAddr i s v) v { afterFrame i s with sp := sp } = .ok () t ∧ exec i s = .next t

/-- The PPU register `n` has the CPU address `a` (R90). -/
def isPpuReg (a : Word) (n : Nat) : Bool :=
  decide (0x2000 ≤ a.toNat) && decide (a.toNat ≤ 0x3FFF) && decide (a.toNat % 8 = n)

/-- The CHR or CIRAM byte at a PPU address below the palette (R101, R110). -/
def videoByte (s : State) (a : Nat) : Byte :=
  if a < 0x2000 then s.cart.chr.read a else s.ppu.ciram.read (mirrorIndex s.cart.mirroring a)

/-- What `APU_READ` and `INPUT_READ` answer to reads of consecutive addresses from 0x4000 on that give `bytes`; 0x4014 is
neither's (R69, R91, R92). -/
def oracleRecord (bytes : List Byte) : List (Word × Byte) :=
  (((List.range bytes.length).map fun k => BitVec.ofNat 16 (0x4000 + k)).zip bytes).filter fun r => r.1 != 0x4014

/-- `v` after a PPUDATA access (R411). -/
def steppedV (p : Ppu) : BitVec 15 := BitVec.ofNat 15 (p.v.toNat + if p.ctrl.inc then 32 else 1)

/-- The PPU stands at this line and dot. -/
def Ppu.standsAt (p : Ppu) (line dot : Nat) : Prop := p.scanline = line ∧ p.dot = dot

/-- The mnemonics of a list hold an instruction's mnemonic. -/
def named (i : Instr) (ms : List Mnemonic) : Bool :=
  match i.descriptor? with
  | some d => ms.contains d.mnemonic
  | none => false

/-- The instructions that write CPU memory through an operand address. -/
def memoryWriters : List Mnemonic :=
  [.mSTA, .mSTX, .mSTY, .mSAX, .mAHX, .mTAS, .mSHX, .mSHY, .mINC, .mDEC, .mASL, .mLSR, .mROL, .mROR, .mSLO, .mRLA, .mSRE,
    .mRRA, .mDCP, .mISB]

/-- The instructions that push (R33). -/
def stackWriters : List Mnemonic := [.mPHA, .mPHP, .mJSR, .mBRK]

end Sys2Proof.Machine

open Sys2Proof Sys2Proof.Machine

/-! ## Reset and construction -/

/-- R550: what the CPU reset leaves, for every admitted cartridge and every value of the parameters. -/
def Obligations.CpuAfterConstruction : Prop :=
  ∀ (c : CartValue) (o : PowerOn) (params : Params) (irq : List Bool) (t : State),
    construct c o params irq = .next t →
    t.a = o.a ∧ t.x = o.x ∧ t.y = o.y ∧ t.sp = 0xFD ∧ t.p = statusOf 0x24 ∧ statusByte t.p false = 0x24 ∧
    (∃ lo hi, peek t 0xFFFC = some lo ∧ peek t 0xFFFD = some hi ∧
      t.pc = BitVec.ofNat 16 (256 * hi.toNat + lo.toNat)) ∧
    t.cycles = o.cycle0 ∧ t.stall = 0 ∧ t.nmiPending = false

/-- R551 to R554: what the PPU, mapper, memory and output resets leave. -/
def Obligations.RestAfterConstruction : Prop :=
  ∀ (c : CartValue) (o : PowerOn) (params : Params) (irq : List Bool) (t : State),
    construct c o params irq = .next t →
    t.ppu.v = 0 ∧ t.ppu.t = 0 ∧ t.ppu.x = 0 ∧ t.ppu.w = false ∧ t.ppu.ctrl = Ctrl.ofByte 0 ∧
    t.ppu.mask = Mask.ofByte 0 ∧ t.ppu.vblank = false ∧ t.ppu.spr0Hit = false ∧ t.ppu.sprOverflow = false ∧
    t.ppu.latch = 0 ∧ t.ppu.buffer = 0 ∧ t.ppu.oamAddr = 0 ∧ t.ppu.standsAt 240 340 ∧ t.ppu.odd = false ∧
    t.ppu.frame = 0 ∧ t.ppu.nmiPrevious = false ∧ t.ppu.nmiDelay = 0 ∧
    t.ppu.bg = { nt := 0, attr := 0, lo := 0, hi := 0, tiles := 0 } ∧ t.ppu.sprCount = 0 ∧
    t.ppu.oam = o.oam ∧ t.ppu.pal = o.pal ∧ t.ppu.ciram = o.ciram ∧ t.ram = o.ram ∧ t.prgRam = o.prgRam ∧
    t.bankSel = 0 ∧ t.cart.prgRom = c.prgRom ∧ t.cart.chr = (if c.chrBanks = 0 then o.chrRam else c.chr) ∧
    t.out = { pixels := [], apuWrites := [], controllerWrites := [], oracleReads := [] }

/-- R102: exactly these cartridges make a console, whatever the other parameters; any other is refused. -/
def Obligations.ConstructionAdmits : Prop :=
  ∀ (c : CartValue) (o : PowerOn) (params : Params) (irq : List Bool),
    (((c.mapperId = 0 ∧ (c.prgBanks = 1 ∨ c.prgBanks = 2)) ∨ (c.mapperId = 2 ∧ 1 ≤ c.prgBanks)) ∧
        (c.chrBanks = 0 ∨ c.chrBanks = 1) →
      ∃ t, construct c o params irq = .next t) ∧
    (¬ (((c.mapperId = 0 ∧ (c.prgBanks = 1 ∨ c.prgBanks = 2)) ∨ (c.mapperId = 2 ∧ 1 ≤ c.prgBanks)) ∧
        (c.chrBanks = 0 ∨ c.chrBanks = 1)) →
      construct c o params irq = .refused .unsupportedCartridge)

/-- The invariant holds of the reset state. -/
def Obligations.InvariantAtReset : Prop := State.reset.Inv

/-- The invariant holds of every console built from arrays of their sizes in canonical form, with an NMI delay of at least
one dot (R12). -/
def Obligations.InvariantAfterConstruction : Prop :=
  ∀ (c : CartValue) (o : PowerOn) (params : Params) (irq : List Bool) (t : State),
    construct c o params irq = .next t →
    c.prgRom.good (16384 * c.prgBanks) = true → c.chr.good (8192 * c.chrBanks) = true →
    o.ram.good 2048 = true → o.prgRam.good (8192 * max 1 c.prgRamUnits) = true → o.chrRam.good 8192 = true →
    o.ciram.good 2048 = true → o.oam.good 256 = true → o.pal.good 32 = true →
    (∀ cell ∈ o.pal, cell.1 ≠ 16 ∧ cell.1 ≠ 20 ∧ cell.1 ≠ 24 ∧ cell.1 ≠ 28) →
    1 ≤ params.nmiDelayDots → t.Inv

/-- Every step keeps the invariant, from every state that has it. -/
def Obligations.StepKeepsInvariant : Prop :=
  ∀ s t : State, s.Inv → step s = .next t → t.Inv

/-! ## Decoding -/

/-- Words written out from the encoding tables of the spec, one of each operand form. -/
def Obligations.SpecWordsDecode : Prop :=
  decode [0x00] = .ok (.brk, []) ∧ decode [0xA9, 0x80] = .ok (.ldaImm 0x80, []) ∧
  decode [0xB6, 0xFF] = .ok (.ldxZpY 0xFF, []) ∧ decode [0x9D, 0x00, 0x02] = .ok (.staAbsX 0x0200, []) ∧
  decode [0x6C, 0xFF, 0x30] = .ok (.jmpInd 0x30FF, []) ∧ decode [0x10, 0xFB] = .ok (.bpl (-5), []) ∧
  decode [0x0A] = .ok (.aslAcc, []) ∧ decode [0xB1, 0x00] = .ok (.ldaIndY 0x00, []) ∧
  decode [0x63, 0x10] = .ok (.rraIndX 0x10, []) ∧ decode [0xEB, 0x01] = .ok (.sbcImmEB 0x01, []) ∧
  decode [0x02] = .ok (.jam02, []) ∧ decode [0xBB, 0x34, 0x12] = .ok (.lasAbsY 0x1234, []) ∧
  decode [0xA9] = .error (.truncated 0xA9) ∧ decode [] = .error .noBytes

/-- Decoding the encoding of a well-formed instruction gives it back, with the bytes after it. -/
def Obligations.DecodeOfEncode : Prop :=
  ∀ (i : Instr) (rest : List Byte), i.wellFormed = true → decode (encode i ++ rest) = .ok (i, rest)

/-- Whatever decodes is a well-formed instruction whose encoding is the bytes taken. -/
def Obligations.EncodeOfDecode : Prop :=
  ∀ (bytes rest : List Byte) (i : Instr), decode bytes = .ok (i, rest) →
    i.wellFormed = true ∧ encode i ++ rest = bytes

/-- R3, R142, R157, R159: the map has 256 rows, 151 of them documented and 7 unstable; 12 are JAM and 28 NOP, one of them
documented; and the byte size of a row is one more than its operand bytes, but for BRK, whose size is 2. -/
def Obligations.OpcodeMapCounts : Prop :=
  opcodeMap.flatten.length = 256 ∧
  (opcodeMap.flatten.countP fun d => d.standing = .documented) = 151 ∧
  (opcodeMap.flatten.countP fun d => d.standing = .unstable) = 7 ∧
  (opcodeMap.flatten.countP fun d => d.mnemonic = .mJAM) = 12 ∧
  (opcodeMap.flatten.countP fun d => d.mnemonic = .mNOP) = 28 ∧
  (opcodeMap.flatten.countP fun d => d.mnemonic = .mNOP ∧ d.standing = .documented) = 1 ∧
  (∀ i : Instr, ∃ d, i.descriptor? = some d ∧
    d.size = (if i = .brk then 2 else (encode i).length) ∧ d.pageCross ≤ 1)

/-! ## The step -/

/-- When the bytes at PC encode `i`, a step that runs an instruction is `i`'s meaning with the IRQ input used up, and then
three dots per cycle. -/
def Obligations.StepRunsDecodedInstruction : Prop :=
  ∀ (s : State) (i : Instr), RunsInstruction s → i.wellFormed = true →
    (∀ k b, (encode i)[k]? = some b → peek s (s.pc + BitVec.ofNat 16 k) = some b) →
    step s = withDots s.cycles (exec i s.dropInput)

/-- R125, R140, R165: the instruction's bytes are read over the CPU bus one after the other, wherever PC points, and the
meaning runs in the state those reads leave. -/
def Obligations.StepFetchesOverTheBus : Prop :=
  ∀ (s t : State) (i : Instr) (bytes : List Byte), RunsInstruction s → decode bytes = .ok (i, []) →
    busReadBytes bytes.length s.pc s.dropInput = .ok bytes t →
    step s = withDots s.cycles (exec i t)

/-- R515, R564: a stall step takes one cycle, runs no instruction and takes no interrupt, whatever is pending. -/
def Obligations.StallStep : Prop :=
  ∀ s : State, 0 < s.stall →
    step s = .next (runDots 3 { s with
      stall := s.stall - 1, cycles := s.cycles + 1, irqInputs := s.irqInputs.tail })

/-- R508, R509, R510: a pending NMI is taken before an IRQ and whatever I holds: PC and P (B = 0) on the stack, I set, PC from
0xFFFA, seven cycles, the latch cleared. -/
def Obligations.NmiEntry : Prop :=
  ∀ s : State, s.Inv → s.stall = 0 → s.nmiPending = true →
    ∃ lo hi, peek s 0xFFFA = some lo ∧ peek s 0xFFFB = some hi ∧
      step s = .next (runDots 21 { interruptFrame s.pc false s with
        pc := BitVec.ofNat 16 (256 * hi.toNat + lo.toNat), cycles := s.cycles + 7
        nmiPending := false, irqInputs := s.irqInputs.tail })

/-- R507, R508, R509, R510: with no NMI pending and I clear, a high IRQ line is taken: as the NMI, from 0xFFFE. -/
def Obligations.IrqEntry : Prop :=
  ∀ s : State, s.Inv → s.stall = 0 → s.nmiPending = false → s.irqLine = true → s.p.i = false →
    ∃ lo hi, peek s 0xFFFE = some lo ∧ peek s 0xFFFF = some hi ∧
      step s = .next (runDots 21 { interruptFrame s.pc false s with
        pc := BitVec.ofNat 16 (256 * hi.toNat + lo.toNat), cycles := s.cycles + 7
        irqInputs := s.irqInputs.tail })

/-- R570: every step counts at least one cycle and at most eight. -/
def Obligations.CyclesPerStep : Prop :=
  ∀ s t : State, step s = .next t → s.cycles + 1 ≤ t.cycles ∧ t.cycles ≤ s.cycles + 8

/-- R160, R501, R502: a console with the invariant stops only on the unimplemented region, on a JAM, or, under
`UNSTABLE_OPCODES = refuse`, on one of the seven unstable opcodes. That the two array offsets beside PRG-ROM's never leave
their arrays, so that no step raises R103's `CartridgeOutOfRange`, is the model's inference (DEDUCED, log entry 4). -/
def Obligations.StopsOnlyAsListed : Prop :=
  ∀ s : State, s.Inv →
    (∀ f, step s = .fault f →
      (∃ a t, f = .notImplemented a t ∧ 0x4018 ≤ a.toNat ∧ a.toNat ≤ 0x5FFF) ∨ (∃ pc t, f = .jam pc t)) ∧
    (∀ r, step s = .refused r →
      s.params.unstable = .refuse ∧
      (r = .unstableOpcode 0x8B ∨ r = .unstableOpcode 0xAB ∨ r = .unstableOpcode 0x93 ∨ r = .unstableOpcode 0x9F ∨
        r = .unstableOpcode 0x9B ∨ r = .unstableOpcode 0x9C ∨ r = .unstableOpcode 0x9E))

/-! ## The CPU bus -/

/-- R89: all mirrors of a RAM byte name it: what one address writes, each of the four reads, and every other byte of RAM
reads as before. -/
def Obligations.RamMirrors : Prop :=
  ∀ (s : State) (a b : Word) (v : Byte), s.ram.wf = true → a.toNat ≤ 0x1FFF → b.toNat ≤ 0x1FFF →
    ∃ t, busWrite a v s = .ok () t ∧
      (b.toNat % 0x800 = a.toNat % 0x800 → busRead b t = .ok v t) ∧
      (b.toNat % 0x800 ≠ a.toNat % 0x800 → ∃ u, busRead b s = .ok u s ∧ busRead b t = .ok u t)

/-- R93, R500: a CPU read or write of 0x4018-0x5FFF raises `NotImplemented` with the address, and the fault keeps the state
as it was. -/
def Obligations.UnimplementedRegionFaults : Prop :=
  ∀ (s : State) (a : Word) (v : Byte), 0x4018 ≤ a.toNat → a.toNat ≤ 0x5FFF →
    busRead a s = .stop (.notImplemented a s) ∧ busWrite a v s = .stop (.notImplemented a s)

/-- R94: the PRG-RAM window reads what was last written, byte by byte, and never faults. -/
def Obligations.PrgRamWindow : Prop :=
  ∀ (s : State) (a b : Word) (v : Byte), s.prgRam.wf = true → 0x6000 ≤ a.toNat → a.toNat ≤ 0x7FFF →
    0x6000 ≤ b.toNat → b.toNat ≤ 0x7FFF →
    ∃ t, busWrite a v s = .ok () t ∧ t = { s with prgRam := t.prgRam } ∧
      t.prgRam.read (a.toNat - 0x6000) = v ∧ busRead a t = .ok v t ∧
      (b ≠ a → ∃ u, busRead b s = .ok u s ∧ busRead b t = .ok u t)

/-- R99, R100, R104: where each mapper finds a PRG-ROM byte, and what a write to the window does. -/
def Obligations.MapperWindow : Prop :=
  ∀ (s : State) (a : Word) (v : Byte), s.Inv → 0x8000 ≤ a.toNat →
    (s.cart.mapper = .nrom →
      busRead a s = .ok (s.cart.prgRom.read ((a.toNat - 0x8000) % (16384 * s.cart.prgBanks))) s ∧
      busWrite a v s = .ok () s) ∧
    (s.cart.mapper = .uxrom →
      (a.toNat < 0xC000 → busRead a s = .ok (s.cart.prgRom.read (s.bankSel * 16384 + (a.toNat - 0x8000))) s) ∧
      (0xC000 ≤ a.toNat →
        busRead a s = .ok (s.cart.prgRom.read ((s.cart.prgBanks - 1) * 16384 + (a.toNat - 0xC000))) s) ∧
      busWrite a v s = .ok () { s with bankSel := v.toNat % s.cart.prgBanks })

/-- R91, R92: APU and controller accesses. A read gives some byte, recorded in the oracle stream (for 0x4014 a draw, not
recorded); a write is recorded as an event. -/
def Obligations.ApuAndControllerAccesses : Prop :=
  ∀ (s : State) (a : Word) (v : Byte), 0x4000 ≤ a.toNat → a.toNat ≤ 0x4017 →
    (a.toNat ≠ 0x4014 → ∃ r, busRead a s = .ok r { s with
      draws := s.draws + 1, out := { s.out with oracleReads := s.out.oracleReads ++ [(a, r)] } }) ∧
    (a.toNat = 0x4014 → ∃ r, busRead a s = .ok r { s with draws := s.draws + 1 }) ∧
    (a.toNat ≠ 0x4014 → a.toNat ≠ 0x4016 →
      busWrite a v s = .ok () { s with out := { s.out with apuWrites := s.out.apuWrites ++ [(a, v)] } }) ∧
    (a.toNat = 0x4016 →
      busWrite a v s = .ok () { s with out := { s.out with controllerWrites := s.out.controllerWrites ++ [(a, v)] } })

/-- R416, R417: an OAM DMA from a page of plain memory copies its 256 bytes to OAM from the cursor on, leaves the cursor where
it was, and stalls the CPU for 513 cycles, or 514 on an odd cycle count. -/
def Obligations.OamDmaCopies : Prop :=
  ∀ (s : State) (page : Byte), s.Inv →
    (∀ i, i < 256 → (peek s (BitVec.ofNat 16 (256 * page.toNat + i))).isSome = true) →
    ∃ t, busWrite 0x4014 page s = .ok () t ∧
      t = { s with
        stall := s.stall + (if s.cycles % 2 = 0 then 513 else 514), ppu := { s.ppu with oam := t.ppu.oam } } ∧
      ∀ i, i < 256 → peek s (BitVec.ofNat 16 (256 * page.toNat + i)) =
        some (t.ppu.oam.read ((s.ppu.oamAddr.toNat + i) % 256))

/-! ## The PPU registers -/

/-- R403: a PPUSTATUS read gives the three flags over the latch's low bits, clears vblank and the write toggle, and ends the
NMI condition. -/
def Obligations.PpuStatusRead : Prop :=
  ∀ (s : State) (a : Word), isPpuReg a 2 = true →
    busRead a s = .ok
      (BitVec.ofNat 8 (128 * s.ppu.vblank.toNat + 64 * s.ppu.spr0Hit.toNat + 32 * s.ppu.sprOverflow.toNat +
        s.ppu.latch.toNat % 32))
      { s with ppu := { s.ppu with vblank := false, w := false, nmiPrevious := false } }

/-- R401, R402, R415, R457: a PPUCTRL write sets its fields and `t`'s nametable bits, and a rising NMI condition starts the
delay; a PPUMASK write sets its eight fields. -/
def Obligations.PpuCtrlAndMaskWrites : Prop :=
  ∀ (s : State) (a : Word) (d : Byte),
    (isPpuReg a 0 = true →
      busWrite a d s = .ok () { s with ppu := { s.ppu with
        latch := d
        ctrl := {
          nt := BitVec.ofNat 2 d.toNat, inc := d.toNat.testBit 2, sprTable := d.toNat.testBit 3
          bgTable := d.toNat.testBit 4, sprSize := d.toNat.testBit 5, master := d.toNat.testBit 6
          nmiOutput := d.toNat.testBit 7 }
        t := BitVec.ofNat 15 (s.ppu.t.toNat / 4096 * 4096 + d.toNat % 4 * 1024 + s.ppu.t.toNat % 1024)
        nmiPrevious := d.toNat.testBit 7 && s.ppu.vblank
        nmiDelay := if d.toNat.testBit 7 && s.ppu.vblank && !s.ppu.nmiPrevious then s.params.nmiDelayDots
          else s.ppu.nmiDelay } }) ∧
    (isPpuReg a 1 = true →
      busWrite a d s = .ok () { s with ppu := { s.ppu with
        latch := d
        mask := {
          gray := d.toNat.testBit 0, bgLeft := d.toNat.testBit 1, sprLeft := d.toNat.testBit 2, bg := d.toNat.testBit 3
          spr := d.toNat.testBit 4, emR := d.toNat.testBit 5, emG := d.toNat.testBit 6, emB := d.toNat.testBit 7 } } })

/-- R404, R405, R406, R413, R414, R415: OAMADDR and OAMDATA; reads of the five write-only registers give a draw and change
nothing; a PPUSTATUS write sets only the latch. -/
def Obligations.OamAndOtherRegisters : Prop :=
  ∀ (s : State) (a : Word) (d : Byte),
    (isPpuReg a 3 = true → busWrite a d s = .ok () { s with ppu := { s.ppu with latch := d, oamAddr := d } }) ∧
    (isPpuReg a 4 = true →
      busRead a s = .ok
        (if s.ppu.oamAddr.toNat % 4 = 2 then
          BitVec.ofNat 8 ((s.ppu.oam.read s.ppu.oamAddr.toNat).toNat / 32 * 32 +
            (s.ppu.oam.read s.ppu.oamAddr.toNat).toNat % 4)
        else s.ppu.oam.read s.ppu.oamAddr.toNat) s ∧
      busWrite a d s = .ok () { s with ppu := { s.ppu with
        latch := d, oam := s.ppu.oam.write s.ppu.oamAddr.toNat d
        oamAddr := BitVec.ofNat 8 (s.ppu.oamAddr.toNat + 1) } }) ∧
    (isPpuReg a 0 = true ∨ isPpuReg a 1 = true ∨ isPpuReg a 3 = true ∨ isPpuReg a 5 = true ∨ isPpuReg a 6 = true →
      ∃ r, busRead a s = .ok r { s with draws := s.draws + 1 }) ∧
    (isPpuReg a 2 = true → busWrite a d s = .ok () { s with ppu := { s.ppu with latch := d } })

/-- R407 to R410, R415: the two halves of PPUSCROLL and of PPUADDR, chosen by the shared toggle. -/
def Obligations.ScrollAndAddressWrites : Prop :=
  ∀ (s : State) (a : Word) (d : Byte),
    (isPpuReg a 5 = true → s.ppu.w = false →
      busWrite a d s = .ok () { s with ppu := { s.ppu with
        latch := d, t := BitVec.ofNat 15 (s.ppu.t.toNat / 32 * 32 + d.toNat / 8)
        x := BitVec.ofNat 3 (d.toNat % 8), w := true } }) ∧
    (isPpuReg a 5 = true → s.ppu.w = true →
      busWrite a d s = .ok () { s with ppu := { s.ppu with
        latch := d
        t := BitVec.ofNat 15 (d.toNat % 8 * 4096 + s.ppu.t.toNat / 1024 % 4 * 1024 + d.toNat / 8 * 32 +
          s.ppu.t.toNat % 32)
        w := false } }) ∧
    (isPpuReg a 6 = true → s.ppu.w = false →
      busWrite a d s = .ok () { s with ppu := { s.ppu with
        latch := d, t := BitVec.ofNat 15 (d.toNat % 64 * 256 + s.ppu.t.toNat % 256), w := true } }) ∧
    (isPpuReg a 6 = true → s.ppu.w = true →
      busWrite a d s = .ok () { s with ppu := { s.ppu with
        latch := d
        t := BitVec.ofNat 15 (s.ppu.t.toNat / 256 * 256 + d.toNat)
        v := BitVec.ofNat 15 (s.ppu.t.toNat / 256 * 256 + d.toNat), w := false } })

/-- R411: a PPUDATA read below the palette gives the buffer and refills it; a palette read gives the entry's six bits at once
and refills the buffer from the nametable byte below; both step `v`. -/
def Obligations.PpuDataRead : Prop :=
  ∀ (s : State) (a : Word), isPpuReg a 7 = true →
    (s.ppu.v.toNat % 0x4000 < 0x3F00 →
      busRead a s = .ok s.ppu.buffer { s with ppu := { s.ppu with
        buffer := videoByte s (s.ppu.v.toNat % 0x4000), v := steppedV s.ppu } }) ∧
    (0x3F00 ≤ s.ppu.v.toNat % 0x4000 →
      ∃ r, r.toNat % 64 = (s.ppu.pal.read (palIndex (s.ppu.v.toNat % 0x4000))).toNat ∧
        busRead a s = .ok r { s with
          draws := s.draws + 1
          ppu := { s.ppu with
            buffer := videoByte s (s.ppu.v.toNat % 0x4000 - 0x1000), v := steppedV s.ppu } })

/-- R412, R101, R111, R115: a PPUDATA write reaches CHR (kept only by CHR-RAM), CIRAM or a palette entry (six bits), and steps
`v`. -/
def Obligations.PpuDataWrite : Prop :=
  ∀ (s : State) (a : Word) (d : Byte), isPpuReg a 7 = true →
    (s.ppu.v.toNat % 0x4000 < 0x2000 →
      busWrite a d s = .ok () { s with
        cart := { s.cart with
          chr := if s.cart.chrBanks = 0 then s.cart.chr.write (s.ppu.v.toNat % 0x4000) d else s.cart.chr }
        ppu := { s.ppu with latch := d, v := steppedV s.ppu } }) ∧
    (0x2000 ≤ s.ppu.v.toNat % 0x4000 → s.ppu.v.toNat % 0x4000 < 0x3F00 →
      busWrite a d s = .ok () { s with ppu := { s.ppu with
        latch := d, v := steppedV s.ppu
        ciram := s.ppu.ciram.write (mirrorIndex s.cart.mirroring (s.ppu.v.toNat % 0x4000)) d } }) ∧
    (0x3F00 ≤ s.ppu.v.toNat % 0x4000 →
      busWrite a d s = .ok () { s with ppu := { s.ppu with
        latch := d, v := steppedV s.ppu
        pal := s.ppu.pal.write (palIndex (s.ppu.v.toNat % 0x4000)) (BitVec.ofNat 6 d.toNat) } })

/-- R113, R114, R116: which nametable addresses and which palette addresses name the same byte, and which do not. -/
def Obligations.VideoAddressAliases : Prop :=
  (∀ off, off < 0x400 →
    mirrorIndex .horizontal (0x2000 + off) = off ∧ mirrorIndex .horizontal (0x2400 + off) = off ∧
    mirrorIndex .horizontal (0x2800 + off) = 1024 + off ∧ mirrorIndex .horizontal (0x2C00 + off) = 1024 + off ∧
    mirrorIndex .vertical (0x2000 + off) = off ∧ mirrorIndex .vertical (0x2800 + off) = off ∧
    mirrorIndex .vertical (0x2400 + off) = 1024 + off ∧ mirrorIndex .vertical (0x2C00 + off) = 1024 + off) ∧
  (∀ m a, 0x3000 ≤ a → a < 0x3F00 → mirrorIndex m a = mirrorIndex m (a - 0x1000)) ∧
  (∀ a b, 0x3F00 ≤ a → a < 0x4000 → 0x3F00 ≤ b → b < 0x4000 →
    (palIndex a = palIndex b ↔ a % 32 = b % 32 ∨ (a % 16 = b % 16 ∧ a % 4 = 0)))

/-! ## The dot clock -/

/-- R420, R421: one tick moves one dot on: to the next dot, the next line or the next frame, with one dot of the pre-render line
left out on odd frames with rendering enabled. A frame started with rendering enabled or disabled for its whole length
therefore takes 89,341 ticks if it is odd with rendering enabled, else 89,342. -/
def Obligations.DotClock : Prop :=
  (∀ s : State, s.ppu.dot ≤ 340 → s.ppu.scanline ≤ 261 →
    let p := s.ppu
    let q := (tick s).ppu
    let last := p.scanline = 261 ∧
      (p.dot = 340 ∨ (p.dot = 339 ∧ p.odd = true ∧ (p.mask.bg = true ∨ p.mask.spr = true)))
    (last → q.standsAt 0 0 ∧ q.odd = !p.odd ∧ q.frame = p.frame + 1) ∧
    (¬ last → q.odd = p.odd ∧ q.frame = p.frame ∧
      (p.dot < 340 → q.standsAt p.scanline (p.dot + 1)) ∧ (p.dot = 340 → q.standsAt (p.scanline + 1) 0))) ∧
  (∀ s : State, s.ppu.standsAt 0 0 →
    let n := if s.ppu.odd = true ∧ (s.ppu.mask.bg = true ∨ s.ppu.mask.spr = true) then 89341 else 89342
    (runDots n s).ppu.standsAt 0 0 ∧ (runDots n s).ppu.frame = s.ppu.frame + 1 ∧
    (runDots n s).ppu.odd = !s.ppu.odd ∧ ∀ k, k < n → (runDots k s).ppu.frame = s.ppu.frame)

/-- R455, R456: a tick sets vblank at line 241 dot 1, clears it and both sprite flags at line 261 dot 1, and leaves vblank alone
at every other dot, where the sprite flags are only ever set. -/
def Obligations.VblankFlag : Prop :=
  ∀ s : State,
    let q := (tick s).ppu
    (q.standsAt 241 1 → q.vblank = true) ∧
    (q.standsAt 261 1 → q.vblank = false ∧ q.spr0Hit = false ∧ q.sprOverflow = false) ∧
    (¬ q.standsAt 241 1 → ¬ q.standsAt 261 1 → q.vblank = s.ppu.vblank) ∧
    (¬ q.standsAt 261 1 → (s.ppu.spr0Hit = true → q.spr0Hit = true) ∧
      (s.ppu.sprOverflow = true → q.sprOverflow = true))

/-- R420, R455, R457, R458, R563: with NMI enabled, the vblank of line 241 sets the CPU's NMI latch `NMI_DELAY_DOTS` ticks
later and not before, for a delay that ends by the flag's clearing; with NMI disabled it never does. -/
def Obligations.VblankNmi : Prop :=
  ∀ s : State, s.Inv → s.ppu.standsAt 241 0 → s.ppu.vblank = false → s.ppu.nmiDelay = 0 → s.nmiPending = false →
    s.params.nmiDelayDots ≤ 6820 →
    (s.ppu.ctrl.nmiOutput = true →
      (runDots 1 s).ppu.nmiDelay = s.params.nmiDelayDots ∧
      (runDots s.params.nmiDelayDots s).nmiPending = false ∧
      (runDots (s.params.nmiDelayDots + 1) s).nmiPending = true) ∧
    (s.ppu.ctrl.nmiOutput = false → ∀ n, (runDots n s).nmiPending = false)

/-- R431, R432, R433, R434: the scroll updates, in the fields fine Y, nametable, coarse Y and coarse X of `v`. -/
def Obligations.ScrollUpdates : Prop :=
  ∀ v t : BitVec 15,
    (let u := incX v;
      u.toNat / 4096 = v.toNat / 4096 ∧ u.toNat / 2048 % 2 = v.toNat / 2048 % 2 ∧
      u.toNat / 32 % 32 = v.toNat / 32 % 32 ∧
      (v.toNat % 32 = 31 → u.toNat % 32 = 0 ∧ u.toNat / 1024 % 2 = 1 - v.toNat / 1024 % 2) ∧
      (v.toNat % 32 ≠ 31 → u.toNat % 32 = v.toNat % 32 + 1 ∧ u.toNat / 1024 % 2 = v.toNat / 1024 % 2)) ∧
    (let u := incY v;
      u.toNat % 32 = v.toNat % 32 ∧ u.toNat / 1024 % 2 = v.toNat / 1024 % 2 ∧
      (v.toNat / 4096 ≠ 7 → u.toNat / 4096 = v.toNat / 4096 + 1 ∧ u.toNat / 32 % 128 = v.toNat / 32 % 128) ∧
      (v.toNat / 4096 = 7 → u.toNat / 4096 = 0 ∧
        (v.toNat / 32 % 32 = 29 → u.toNat / 32 % 32 = 0 ∧ u.toNat / 2048 % 2 = 1 - v.toNat / 2048 % 2) ∧
        (v.toNat / 32 % 32 = 31 → u.toNat / 32 % 32 = 0 ∧ u.toNat / 2048 % 2 = v.toNat / 2048 % 2) ∧
        (v.toNat / 32 % 32 ≠ 29 → v.toNat / 32 % 32 ≠ 31 →
          u.toNat / 32 % 32 = v.toNat / 32 % 32 + 1 ∧ u.toNat / 2048 % 2 = v.toNat / 2048 % 2))) ∧
    (let u := copyX v t;
      u.toNat % 32 = t.toNat % 32 ∧ u.toNat / 1024 % 2 = t.toNat / 1024 % 2 ∧
      u.toNat / 32 % 32 = v.toNat / 32 % 32 ∧ u.toNat / 2048 = v.toNat / 2048) ∧
    (let u := copyY v t;
      u.toNat % 32 = v.toNat % 32 ∧ u.toNat / 1024 % 2 = v.toNat / 1024 % 2 ∧
      u.toNat / 32 % 32 = t.toNat / 32 % 32 ∧ u.toNat / 2048 = t.toNat / 2048)

/-- R440: sprite evaluation keeps the first eight of the sprites whose span includes the line, in OAM order, each with its X, its
priority and its pattern row, and sets the overflow flag when more than eight do. -/
def Obligations.SpriteEvaluation : Prop :=
  ∀ (c : Cart) (p : Ppu),
    let spans := fun i : Nat => i < 64 ∧ (p.oam.read (4 * i)).toNat ≤ p.scanline ∧
      p.scanline < (p.oam.read (4 * i)).toNat + (if p.ctrl.sprSize then 16 else 8)
    let q := evaluateSprites c p
    q.sprCount ≤ 8 ∧
    (∀ k (h : k < 8), k < q.sprCount →
      spans q.sprites[k].index.toNat ∧
      q.sprites[k].xpos = p.oam.read (4 * q.sprites[k].index.toNat + 3) ∧
      q.sprites[k].prio = (p.oam.read (4 * q.sprites[k].index.toNat + 2)).toNat.testBit 5 ∧
      q.sprites[k].pattern = spritePattern c p q.sprites[k].index.toNat
        (p.scanline - (p.oam.read (4 * q.sprites[k].index.toNat)).toNat)) ∧
    (∀ j k (hj : j < 8) (hk : k < 8), j < k → k < q.sprCount →
      q.sprites[j].index.toNat < q.sprites[k].index.toNat) ∧
    (∀ i, spans i → (∃ k, ∃ h : k < 8, k < q.sprCount ∧ q.sprites[k].index.toNat = i) ∨
      (q.sprCount = 8 ∧ ∀ k (h : k < 8), q.sprites[k].index.toNat < i)) ∧
    (q.sprOverflow = true ↔ p.sprOverflow = true ∨
      (q.sprCount = 8 ∧ ∃ i, spans i ∧ ∀ k (h : k < 8), q.sprites[k].index.toNat < i))

/-- R448, R449: composition of a background colour number with the winning sprite, and the sprite-zero test. -/
def Obligations.PixelComposition : Prop :=
  (∀ bg : BitVec 4, composeColour bg none = (if bg.toNat % 4 = 0 then 0 else BitVec.ofNat 5 bg.toNat)) ∧
  (∀ (bg sp : BitVec 4) (slot : SpriteSlot), composeColour bg (some (slot, sp)) =
    if bg.toNat % 4 ≠ 0 ∧ slot.prio = true then BitVec.ofNat 5 bg.toNat else BitVec.ofNat 5 (16 + sp.toNat)) ∧
  (∀ (bg sp : BitVec 4) (slot : SpriteSlot) (px : Nat), spriteZeroHit bg none px = false ∧
    (spriteZeroHit bg (some (slot, sp)) px = true ↔ bg.toNat % 4 ≠ 0 ∧ slot.index = 0 ∧ px < 255)) ∧
  (∀ (p : Ppu) (slot : SpriteSlot) (sp : BitVec 4), sprPixel p = some (slot, sp) → sp.toNat % 4 ≠ 0)

/-- R451, R452: a tick sends one pixel exactly when it reaches a visible dot, at that dot's place; with rendering disabled it is
the backdrop entry, in grey if grayscale is set, and the scroll, the pipeline and the sprite buffer stay as they are. -/
def Obligations.FrameSinkPixels : Prop :=
  ∀ s : State,
    let q := (tick s).ppu
    (q.scanline < 240 → 1 ≤ q.dot → q.dot ≤ 256 → ∃ colour,
      (tick s).out = { s.out with pixels := s.out.pixels ++ [{ x := q.dot - 1, y := q.scanline, colour := colour }] } ∧
      (s.ppu.mask.bg = false → s.ppu.mask.spr = false →
        colour = if s.ppu.mask.gray then s.ppu.pal.read 0 &&& 0x30 else s.ppu.pal.read 0)) ∧
    (¬ (q.scanline < 240 ∧ 1 ≤ q.dot ∧ q.dot ≤ 256) → (tick s).out = s.out) ∧
    (s.ppu.mask.bg = false → s.ppu.mask.spr = false →
      q.v = s.ppu.v ∧ q.bg = s.ppu.bg ∧ q.sprCount = s.ppu.sprCount ∧ q.sprites = s.ppu.sprites)

/-- R424 to R430: with rendering enabled, the fetch dots of a render line shift the tile buffer by one pixel and fetch the
nametable byte, the palette number and the two pattern planes from where `v` points, from CIRAM and CHR. -/
def Obligations.TileFetches : Prop :=
  ∀ s : State,
    let p := s.ppu.countdown.advance
    let q := (tick s).ppu
    let row := (if p.ctrl.bgTable then 0x1000 else 0) + 16 * p.bg.nt.toNat + p.v.toNat / 4096
    (p.mask.bg = true ∨ p.mask.spr = true) → (p.scanline < 240 ∨ p.scanline = 261) →
    (1 ≤ p.dot ∧ p.dot ≤ 256 ∨ 321 ≤ p.dot ∧ p.dot ≤ 336) →
    (p.dot % 8 ≠ 0 → q.bg.tiles = p.bg.tiles <<< 4) ∧
    (p.dot % 8 = 0 → q.bg.tiles / 4294967296 = (p.bg.tiles <<< 4) / 4294967296) ∧
    (p.dot % 8 = 1 → q.bg.nt = s.ppu.ciram.read (mirrorIndex s.cart.mirroring (0x2000 + p.v.toNat % 4096))) ∧
    (p.dot % 8 = 3 → q.bg.attr = BitVec.ofNat 4 (4 * ((s.ppu.ciram.read (mirrorIndex s.cart.mirroring
      (0x23C0 + p.v.toNat / 1024 % 4 * 1024 + p.v.toNat / 128 % 8 * 8 + p.v.toNat / 4 % 8))).toNat /
        2 ^ (p.v.toNat / 64 % 2 * 4 + p.v.toNat / 2 % 2 * 2) % 4))) ∧
    (p.dot % 8 = 5 → q.bg.lo = s.cart.chr.read row) ∧
    (p.dot % 8 = 7 → q.bg.hi = s.cart.chr.read (row + 8))

/-! ## Whole-machine rules -/

/-- R66, R67, R95, R12: no step changes PRG-ROM, the cartridge's header fields, CHR-ROM or the parameters. -/
def Obligations.RomNeverChanges : Prop :=
  ∀ s t : State, step s = .next t →
    t.cart = { s.cart with chr := t.cart.chr } ∧ (s.cart.chrBanks ≠ 0 → t.cart = s.cart) ∧ t.params = s.params

/-- R69: the four event streams only grow. -/
def Obligations.EventStreamsGrow : Prop :=
  ∀ s t : State, step s = .next t →
    s.out.pixels <+: t.out.pixels ∧ s.out.apuWrites <+: t.out.apuWrites ∧
    s.out.controllerWrites <+: t.out.controllerWrites ∧ s.out.oracleReads <+: t.out.oracleReads

/-- R31 to R33, R36, R38, R39, R42: an instruction that the spec does not list as a writer of a register or flag leaves it as
it was; the NMI latch and the parameters no instruction writes, and only stores and read-modify-write instructions write
the bank register or the stall. -/
def Obligations.RegisterWriters : Prop :=
  ∀ (i : Instr) (s t : State), exec i s = .next t →
    (named i [.mLDA, .mPLA, .mTXA, .mTYA, .mADC, .mSBC, .mAND, .mORA, .mEOR, .mASL, .mLSR, .mROL, .mROR, .mSLO, .mRLA,
      .mSRE, .mRRA, .mLAX, .mISB, .mANC, .mALR, .mARR, .mLAS, .mXAA, .mLXA] = false → t.a = s.a) ∧
    (named i [.mLDX, .mTAX, .mTSX, .mINX, .mDEX, .mLAX, .mAXS, .mLAS, .mLXA] = false → t.x = s.x) ∧
    (named i [.mLDY, .mTAY, .mINY, .mDEY] = false → t.y = s.y) ∧
    (named i [.mTXS, .mLAS, .mTAS, .mPHA, .mPHP, .mPLA, .mPLP, .mJSR, .mRTS, .mBRK, .mRTI] = false → t.sp = s.sp) ∧
    (named i [.mADC, .mSBC, .mCMP, .mCPX, .mCPY, .mASL, .mLSR, .mROL, .mROR, .mCLC, .mSEC, .mPLP, .mRTI, .mSLO, .mRLA,
      .mSRE, .mRRA, .mDCP, .mISB, .mANC, .mALR, .mARR, .mAXS] = false → t.p.c = s.p.c) ∧
    (named i [.mSEI, .mCLI, .mPLP, .mRTI, .mBRK] = false → t.p.i = s.p.i) ∧
    (named i [.mSED, .mCLD, .mPLP, .mRTI] = false → t.p.d = s.p.d) ∧
    (named i [.mADC, .mSBC, .mBIT, .mCLV, .mPLP, .mRTI, .mRRA, .mISB, .mARR] = false → t.p.v = s.p.v) ∧
    (named i (memoryWriters ++ stackWriters ++ [.mJMP, .mJAM, .mNOP, .mRTS, .mTXS, .mBPL, .mBMI, .mBVC, .mBVS, .mBCC,
      .mBCS, .mBNE, .mBEQ, .mCLC, .mSEC, .mCLI, .mSEI, .mCLD, .mSED, .mCLV]) = true →
      named i [.mINC, .mDEC, .mASL, .mLSR, .mROL, .mROR, .mSLO, .mRLA, .mSRE, .mRRA, .mDCP, .mISB] = false →
      t.p.z = s.p.z ∧ t.p.n = s.p.n) ∧
    (named i memoryWriters = false → t.bankSel = s.bankSel ∧ t.stall = s.stall) ∧
    t.nmiPending = s.nmiPending ∧ t.params = s.params

/-- An instruction that stores nothing leaves every byte of CPU memory as it was. -/
def Obligations.NonStoringKeepsMemory : Prop :=
  ∀ (i : Instr) (s t : State), named i stackWriters = false →
    named i memoryWriters = false ∨ i = .aslAcc ∨ i = .lsrAcc ∨ i = .rolAcc ∨ i = .rorAcc →
    exec i s = .next t → t.ram = s.ram ∧ t.prgRam = s.prgRam ∧ ∀ a, peek t a = peek s a

/-- A storing instruction leaves every byte of CPU memory but the stored one as it was; a store into the PRG-ROM window changes
no memory byte (under mapper 2 it selects a bank, R100). The four unstable stores are stated at their own address. -/
def Obligations.StoresChangeOnlyTheirByte : Prop :=
  ∀ (b : Byte) (w : Word) (s t : State) (i : Instr), s.Inv → exec i s = .next t →
    (i ∈ staForms b w ++ stxForms b w ++ styForms b w ++ saxForms b w ++ incForms b w ++ decForms b w ++ aslForms b w ++
        lsrForms b w ++ rolForms b w ++ rorForms b w ++ sloForms b w ++ rlaForms b w ++ sreForms b w ++ rraForms b w ++
        dcpForms b w ++ isbForms b w →
      ((operandAddr i s).toNat < 0x8000 →
        ∀ a, sameByte (operandAddr i s) a = false → peek t a = peek s a) ∧
      (0x8000 ≤ (operandAddr i s).toNat → t.ram = s.ram ∧ t.prgRam = s.prgRam ∧ t.cart = s.cart)) ∧
    (∀ v, i ∈ [Instr.ahxIndY b, .ahxAbsY w] ∧ v = s.a &&& s.x &&& highPlusOne i s ∨
        i = .tasAbsY w ∧ v = s.a &&& s.x &&& highPlusOne i s ∨ i = .shyAbsX w ∧ v = s.y &&& highPlusOne i s ∨
        i = .shxAbsY w ∧ v = s.x &&& highPlusOne i s →
      ((highStoreAddr i s v).toNat < 0x8000 →
        ∀ a, sameByte (highStoreAddr i s v) a = false → peek t a = peek s a) ∧
      (0x8000 ≤ (highStoreAddr i s v).toNat → t.ram = s.ram ∧ t.prgRam = s.prgRam ∧ t.cart = s.cart)) ∧
    (i = .pha ∨ i = .php → ∀ a, sameByte (wordOf 1 s.sp) a = false → peek t a = peek s a) ∧
    (i = .jsrAbs w → ∀ a, sameByte (wordOf 1 s.sp) a = false → sameByte (wordOf 1 (s.sp - 1)) a = false →
      peek t a = peek s a) ∧
    (i = .brk → ∀ a, sameByte (wordOf 1 s.sp) a = false → sameByte (wordOf 1 (s.sp - 1)) a = false →
      sameByte (wordOf 1 (s.sp - 2)) a = false → peek t a = peek s a)

/-! ## Loads, stores, transfers, stack -/

/-- R200, R201, R202: LDA, LDX and LDY in every form. -/
def Obligations.LoadInstructions : Prop :=
  ∀ (b : Byte) (w : Word) (s : State), s.Inv →
    AllRead (ldaForms b w) s (fun v t => { t with a := v, p := t.p.zn v }) ∧
    AllRead (ldxForms b w) s (fun v t => { t with x := v, p := t.p.zn v }) ∧
    AllRead (ldyForms b w) s (fun v t => { t with y := v, p := t.p.zn v })

/-- R203, R204, R205, R314: STA, STX, STY and SAX in every form. No flag changes. -/
def Obligations.StoreInstructions : Prop :=
  ∀ (b : Byte) (w : Word) (s : State), s.Inv →
    AllStore (staForms b w) s s.a ∧ AllStore (stxForms b w) s s.x ∧ AllStore (styForms b w) s s.y ∧
    AllStore (saxForms b w) s (s.a &&& s.x)

/-- R206 to R211, R246 to R249: the transfers and the register counts, modulo 256. TXS changes no flag. -/
def Obligations.TransfersAndCounts : Prop :=
  ∀ s : State,
    exec .tax s = .next { afterFrame .tax s with x := s.a, p := s.p.zn s.a } ∧
    exec .tay s = .next { afterFrame .tay s with y := s.a, p := s.p.zn s.a } ∧
    exec .txa s = .next { afterFrame .txa s with a := s.x, p := s.p.zn s.x } ∧
    exec .tya s = .next { afterFrame .tya s with a := s.y, p := s.p.zn s.y } ∧
    exec .tsx s = .next { afterFrame .tsx s with x := s.sp, p := s.p.zn s.sp } ∧
    exec .txs s = .next { afterFrame .txs s with sp := s.x } ∧
    (let r := BitVec.ofNat 8 (s.x.toNat + 1);
      exec .inx s = .next { afterFrame .inx s with x := r, p := s.p.zn r }) ∧
    (let r := BitVec.ofNat 8 (s.y.toNat + 1);
      exec .iny s = .next { afterFrame .iny s with y := r, p := s.p.zn r }) ∧
    (let r := BitVec.ofNat 8 (s.x.toNat + 255);
      exec .dex s = .next { afterFrame .dex s with x := r, p := s.p.zn r }) ∧
    (let r := BitVec.ofNat 8 (s.y.toNat + 255);
      exec .dey s = .next { afterFrame .dey s with y := r, p := s.p.zn r })

/-- R212 to R215: PHA and PHP push one byte (PHP with B and U set), PLA and PLP pull one. -/
def Obligations.StackInstructions : Prop :=
  ∀ s : State,
    exec .pha s = .next { afterFrame .pha s with ram := s.ram.write (stackIndex s.sp) s.a, sp := s.sp - 1 } ∧
    exec .php s = .next { afterFrame .php s with
      ram := s.ram.write (stackIndex s.sp) (statusByte s.p true), sp := s.sp - 1 } ∧
    (let v := s.ram.read (stackIndex (s.sp + 1));
      exec .pla s = .next { afterFrame .pla s with a := v, sp := s.sp + 1, p := s.p.zn v }) ∧
    (let v := s.ram.read (stackIndex (s.sp + 1));
      exec .plp s = .next { afterFrame .plp s with sp := s.sp + 1, p := statusOf v })

/-- R284 to R291, R323: each flag instruction writes its one flag; the NOPs without an operand byte write nothing. -/
def Obligations.FlagInstructionsAndNop : Prop :=
  ∀ s : State,
    exec .clc s = .next { afterFrame .clc s with p := { s.p with c := false } } ∧
    exec .sec s = .next { afterFrame .sec s with p := { s.p with c := true } } ∧
    exec .cli s = .next { afterFrame .cli s with p := { s.p with i := false } } ∧
    exec .sei s = .next { afterFrame .sei s with p := { s.p with i := true } } ∧
    exec .cld s = .next { afterFrame .cld s with p := { s.p with d := false } } ∧
    exec .sed s = .next { afterFrame .sed s with p := { s.p with d := true } } ∧
    exec .clv s = .next { afterFrame .clv s with p := { s.p with v := false } } ∧
    ∀ i ∈ plainNopForms, exec i s = .next (afterFrame i s)

/-! ## Arithmetic and logic -/

/-- R231, R234, R235, R236, R324: ADC and SBC in every form, SBC's second opcode among them, as exact sums and differences
reduced to eight bits, whatever D holds. -/
def Obligations.AddAndSubtract : Prop :=
  ∀ (b : Byte) (w : Word) (s : State), s.Inv →
    AllRead (adcForms b w) s binaryAdd ∧ AllRead (sbcForms b w) s binarySub

/-- R237, R238, R239: AND, ORA and EOR in every form. -/
def Obligations.LogicInstructions : Prop :=
  ∀ (b : Byte) (w : Word) (s : State), s.Inv →
    AllRead (andForms b w) s (fun m t => { t with a := t.a &&& m, p := t.p.zn (t.a &&& m) }) ∧
    AllRead (oraForms b w) s (fun m t => { t with a := t.a ||| m, p := t.p.zn (t.a ||| m) }) ∧
    AllRead (eorForms b w) s (fun m t => { t with a := t.a ^^^ m, p := t.p.zn (t.a ^^^ m) })

/-- R232, R240 to R243: CMP, CPX, CPY and BIT in every form: flags only. -/
def Obligations.CompareAndBitTest : Prop :=
  ∀ (b : Byte) (w : Word) (s : State), s.Inv →
    AllRead (cmpForms b w) s (fun m t => { t with p := comparison t.a m t.p }) ∧
    AllRead (cpxForms b w) s (fun m t => { t with p := comparison t.x m t.p }) ∧
    AllRead (cpyForms b w) s (fun m t => { t with p := comparison t.y m t.p }) ∧
    AllRead (bitForms b w) s (fun m t => { t with p := { t.p with
      z := decide (t.a &&& m = 0), v := m.toNat.testBit 6, n := m.toNat.testBit 7 } })

/-- R98, R166, R244, R245, R250 to R253: INC, DEC and the shifts on memory: one read, one write at the same address, then Z and N
of the byte written; the shifts also on A. INC and DEC keep C. -/
def Obligations.CountsAndShifts : Prop :=
  ∀ (b : Byte) (w : Word) (s : State), s.Inv →
    (let zn := fun (r : Byte) (u : State) => { u with p := u.p.zn r };
      AllRmw (incForms b w) s (fun v _ => BitVec.ofNat 8 (v.toNat + 1)) (fun _ c => c) zn ∧
      AllRmw (decForms b w) s (fun v _ => BitVec.ofNat 8 (v.toNat + 255)) (fun _ c => c) zn ∧
      AllRmw (aslForms b w) s (fun v _ => shiftedLeft v false) (fun v _ => topBit v) zn ∧
      AllRmw (lsrForms b w) s (fun v _ => shiftedRight v false) (fun v _ => lowBit v) zn ∧
      AllRmw (rolForms b w) s shiftedLeft (fun v _ => topBit v) zn ∧
      AllRmw (rorForms b w) s shiftedRight (fun v _ => lowBit v) zn) ∧
    (let shifted := fun (i : Instr) (r : Byte) (c : Bool) =>
        Host.Outcome.next { afterFrame i s with a := r, p := { s.p.zn r with c := c } };
      exec .aslAcc s = shifted .aslAcc (shiftedLeft s.a false) (topBit s.a) ∧
      exec .lsrAcc s = shifted .lsrAcc (shiftedRight s.a false) (lowBit s.a) ∧
      exec .rolAcc s = shifted .rolAcc (shiftedLeft s.a s.p.c) (topBit s.a) ∧
      exec .rorAcc s = shifted .rorAcc (shiftedRight s.a s.p.c) (lowBit s.a))

/-! ## Control flow -/

/-- R270 to R278, R571: each branch tests its flag; the target is the next instruction's address plus the offset, modulo 65536; two
cycles not taken, three taken, four taken to another page. -/
def Obligations.Branches : Prop :=
  ∀ (off : Int) (s : State),
    exec (.bpl off) s = .next (branched (!s.p.n) off s) ∧ exec (.bmi off) s = .next (branched s.p.n off s) ∧
    exec (.bvc off) s = .next (branched (!s.p.v) off s) ∧ exec (.bvs off) s = .next (branched s.p.v off s) ∧
    exec (.bcc off) s = .next (branched (!s.p.c) off s) ∧ exec (.bcs off) s = .next (branched s.p.c off s) ∧
    exec (.bne off) s = .next (branched (!s.p.z) off s) ∧ exec (.beq off) s = .next (branched s.p.z off s)

/-- R155, R279, R280, R281: JMP absolute and indirect (the pointer's high byte from the same page), JSR pushing the address of its
last byte, and RTS. -/
def Obligations.JumpsAndCalls : Prop :=
  ∀ (w : Word) (s : State),
    exec (.jmpAbs w) s = .next { afterFrame (.jmpAbs w) s with pc := w } ∧
    (let second := BitVec.ofNat 16 (w.toNat / 256 * 256 + (w.toNat + 1) % 256);
      s.Inv → unimplemented w = false → unimplemented second = false →
      ∃ lo hi t u, busRead w s = .ok lo t ∧ busRead second t = .ok hi u ∧
        exec (.jmpInd w) s = .next { u with
          pc := BitVec.ofNat 16 (256 * hi.toNat + lo.toNat), cycles := u.cycles + 5 }) ∧
    exec (.jsrAbs w) s = .next { afterFrame (.jsrAbs w) s with
      ram := pushedWord s.ram s.sp (s.pc + 2), sp := s.sp - 2, pc := w } ∧
    exec .rts s = .next { afterFrame .rts s with pc := pulledWord s.ram s.sp + 1, sp := s.sp + 2 }

/-- R282, R283, R512: BRK pushes the address two bytes on and P with B and U set, sets I and goes to the vector at 0xFFFE; RTI pulls
P, bits 4 and 5 ignored, and then PC. -/
def Obligations.BreakAndReturn : Prop :=
  ∀ s : State,
    (s.Inv → ∃ lo hi, peek s 0xFFFE = some lo ∧ peek s 0xFFFF = some hi ∧
      exec .brk s = .next { interruptFrame (s.pc + 2) true (afterFrame .brk s) with
        pc := BitVec.ofNat 16 (256 * hi.toNat + lo.toNat) }) ∧
    exec .rti s = .next { afterFrame .rti s with
      p := statusOf (s.ram.read (stackIndex (s.sp + 1))), pc := pulledWord s.ram (s.sp + 1), sp := s.sp + 3 }

/-! ## Undocumented instructions -/

/-- R310 to R313, R316, R317: the read-modify-write instructions that go on to combine the byte written with A. -/
def Obligations.UndocumentedReadModifyWrite : Prop :=
  ∀ (b : Byte) (w : Word) (s : State), s.Inv →
    AllRmw (sloForms b w) s (fun v _ => shiftedLeft v false) (fun v _ => topBit v)
      (fun r u => { u with a := u.a ||| r, p := u.p.zn (u.a ||| r) }) ∧
    AllRmw (rlaForms b w) s shiftedLeft (fun v _ => topBit v)
      (fun r u => { u with a := u.a &&& r, p := u.p.zn (u.a &&& r) }) ∧
    AllRmw (sreForms b w) s (fun v _ => shiftedRight v false) (fun v _ => lowBit v)
      (fun r u => { u with a := u.a ^^^ r, p := u.p.zn (u.a ^^^ r) }) ∧
    AllRmw (rraForms b w) s shiftedRight (fun v _ => lowBit v) binaryAdd ∧
    AllRmw (dcpForms b w) s (fun v _ => BitVec.ofNat 8 (v.toNat + 255)) (fun _ c => c)
      (fun r u => { u with p := comparison u.a r u.p }) ∧
    AllRmw (isbForms b w) s (fun v _ => BitVec.ofNat 8 (v.toNat + 1)) (fun _ c => c) binarySub

/-- R315, R318 to R323: LAX, ANC, ALR, ARR, AXS and LAS, and the NOPs that read an operand byte and discard it. -/
def Obligations.UndocumentedReads : Prop :=
  ∀ (b : Byte) (w : Word) (s : State), s.Inv →
    AllRead (laxForms b w) s (fun m t => { t with a := m, x := m, p := t.p.zn m }) ∧
    AllRead [.ancImm0B b, .ancImm2B b] s (fun m t => { t with
      a := t.a &&& m, p := { t.p.zn (t.a &&& m) with c := topBit (t.a &&& m) } }) ∧
    AllRead [.alrImm b] s (fun m t => { t with
      a := shiftedRight (t.a &&& m) false
      p := { t.p.zn (shiftedRight (t.a &&& m) false) with c := lowBit (t.a &&& m) } }) ∧
    AllRead [.arrImm b] s (fun m t =>
      let r := shiftedRight (t.a &&& m) t.p.c
      { t with a := r, p := { t.p.zn r with c := r.toNat.testBit 6, v := r.toNat.testBit 6 != r.toNat.testBit 5 } }) ∧
    AllRead [.axsImm b] s (fun m t => { t with
      x := BitVec.ofInt 8 (((t.a &&& t.x).toNat : Int) - m.toNat), p := comparison (t.a &&& t.x) m t.p }) ∧
    AllRead [.lasAbsY w] s (fun m t => { t with
      a := m &&& t.sp, x := m &&& t.sp, sp := m &&& t.sp, p := t.p.zn (m &&& t.sp) }) ∧
    AllRead (readingNopForms b w) s (fun _ t => t)

/-- R326 to R332: the seven unstable opcodes refuse under `refuse` and follow their formulas under `formula`, for every value of
`MAGIC`. Which of the two `State.reset` carries is the model's choice (log entry 2). -/
def Obligations.UnstableOpcodes : Prop :=
  ∀ (b : Byte) (w : Word) (s : State), s.Inv →
    (s.params.unstable = .refuse → ∀ i ∈ unstableForms b w, exec i s = .refused (.unstableOpcode i.opcode)) ∧
    (s.params.unstable = .formula →
      AllRead [.xaaImm b] s (fun m t => { t with
        a := (t.a ||| t.params.magic) &&& t.x &&& m, p := t.p.zn ((t.a ||| t.params.magic) &&& t.x &&& m) }) ∧
      AllRead [.lxaImm b] s (fun m t => { t with
        a := (t.a ||| t.params.magic) &&& m, x := (t.a ||| t.params.magic) &&& m
        p := t.p.zn ((t.a ||| t.params.magic) &&& m) }) ∧
      (∀ i ∈ [Instr.ahxIndY b, .ahxAbsY w], HighStores i s (s.a &&& s.x &&& highPlusOne i s) s.sp) ∧
      HighStores (.tasAbsY w) s (s.a &&& s.x &&& highPlusOne (.tasAbsY w) s) (s.a &&& s.x) ∧
      HighStores (.shyAbsX w) s (s.y &&& highPlusOne (.shyAbsX w) s) s.sp ∧
      HighStores (.shxAbsY w) s (s.x &&& highPlusOne (.shxAbsY w) s) s.sp)

/-- R325: each of the twelve halting opcodes raises `Jam` with its own address, always. The fault keeps the state at handler
entry (R165, D46; log entry 7). -/
def Obligations.JamFaults : Prop :=
  ∀ s : State, ∀ i ∈ jamForms, exec i s = .fault (.jam s.pc (afterFrame i s))

/-! ## Stops on an operand -/

/-- R93, R127, R165, R416, R500, R503: an instruction whose operand read or store falls in the unimplemented region stops with
that address, and the fault keeps the state at handler entry. JMP indirect stops on either byte of its pointer and a step on
its opcode byte, before PC moves (log entry 7, DEDUCED). An OAM DMA stops at the first such address of its page and keeps the OAM bytes written and
the reads made before it: 24 of each from page 0x40, none from the pages above. -/
def Obligations.UnimplementedOperandFaults : Prop :=
  ∀ (b : Byte) (w : Word) (s : State),
    (∀ i ∈ ldaForms b w ++ ldxForms b w ++ ldyForms b w ++ adcForms b w ++ sbcForms b w ++ andForms b w ++ oraForms b w ++
        eorForms b w ++ cmpForms b w ++ cpxForms b w ++ cpyForms b w ++ bitForms b w ++ laxForms b w ++
        readingNopForms b w ++ [.lasAbsY w] ++ incForms b w ++ decForms b w ++ aslForms b w ++ lsrForms b w ++
        rolForms b w ++ rorForms b w ++ sloForms b w ++ rlaForms b w ++ sreForms b w ++ rraForms b w ++ dcpForms b w ++
        isbForms b w,
      operandReadable i s = false → exec i s = .fault (.notImplemented (operandAddr i s) (afterFrame i s))) ∧
    (∀ i ∈ staForms b w ++ stxForms b w ++ styForms b w ++ saxForms b w,
      unimplemented (operandAddr i s) = true →
        exec i s = .fault (.notImplemented (operandAddr i s) (afterFrame i s))) ∧
    (unimplemented w = true → exec (.jmpInd w) s = .fault (.notImplemented w s)) ∧
    (∃ lo, exec (.jmpInd 0x4017) s = .fault (.notImplemented 0x4018 { s with
      draws := s.draws + 1, out := { s.out with oracleReads := s.out.oracleReads ++ [(0x4017, lo)] } })) ∧
    (RunsInstruction s → unimplemented s.pc = true →
      step s = .fault (.notImplemented s.pc { s with irqInputs := s.irqInputs.tail })) ∧
    (b.toNat = 0x40 → ∃ bytes : List Byte, bytes.length = 24 ∧
      busWrite 0x4014 b s = .stop (.notImplemented 0x4018 { s with
        draws := s.draws + 24
        ppu := bytes.foldl (fun p d => p.writeOamData d) s.ppu
        out := { s.out with oracleReads := s.out.oracleReads ++ oracleRecord bytes } })) ∧
    (0x41 ≤ b.toNat → b.toNat ≤ 0x5F →
      busWrite 0x4014 b s = .stop (.notImplemented (BitVec.ofNat 16 (256 * b.toNat)) s))
end

