-- ==== Sys2Proof/Laws/Memory.lean ====
section
/-! SUPPORT. The laws of the storage arrays: what a write reads as, that it keeps the canonical form and the array's bounds,
and that two lists in canonical form with the same reads are equal. -/

namespace Sys2Proof.Machine

variable {w : Nat}

/-! ## Reads after a write -/

@[simp] theorem Cells.read_nil (a : Nat) : Cells.read ([] : Cells w) a = 0 := rfl

theorem Cells.read_cons (k : Nat) (u : BitVec w) (m : Cells w) (a : Nat) :
    Cells.read ((k, u) :: m) a = if k = a then u else m.read a := rfl

theorem Cells.wfFrom_cons (lo k : Nat) (u : BitVec w) (m : Cells w) :
    Cells.wfFrom lo ((k, u) :: m) = true ↔ lo ≤ k ∧ u ≠ 0 ∧ Cells.wfFrom (k + 1) m = true := by
  simp [Cells.wfFrom, and_assoc]

theorem Cells.wfFrom_mono {lo hi : Nat} {m : Cells w} (h : Cells.wfFrom hi m = true) (le : lo ≤ hi) :
    Cells.wfFrom lo m = true := by
  cases m with
  | nil => rfl
  | cons c m =>
    obtain ⟨k, u⟩ := c
    rw [Cells.wfFrom_cons] at h ⊢
    exact ⟨le.trans h.1, h.2⟩

/-- An index below the first one is not listed. -/
theorem Cells.read_below {lo a : Nat} {m : Cells w} (h : Cells.wfFrom lo m = true) (lt : a < lo) : m.read a = 0 := by
  induction m generalizing lo with
  | nil => rfl
  | cons c m ih =>
    obtain ⟨k, u⟩ := c
    rw [Cells.wfFrom_cons] at h
    rw [Cells.read_cons, if_neg (by omega)]
    exact ih h.2.2 (by omega)

/-- A read of the written cell gives the value written (R120). -/
theorem Cells.read_write_same_from {lo : Nat} {m : Cells w} (h : Cells.wfFrom lo m = true) (a : Nat) (v : BitVec w) :
    (m.write a v).read a = v := by
  induction m generalizing lo with
  | nil =>
    unfold Cells.write
    split_ifs with hv
    · rw [hv]; rfl
    · rw [Cells.read_cons, if_pos rfl]
  | cons c m ih =>
    obtain ⟨k, u⟩ := c
    rw [Cells.wfFrom_cons] at h
    unfold Cells.write
    split_ifs with lt hv eq hv
    · subst hv
      rw [Cells.read_cons, if_neg (by omega), Cells.read_below h.2.2 (by omega)]
    · rw [Cells.read_cons, if_pos rfl]
    · subst hv
      exact Cells.read_below h.2.2 (by omega)
    · rw [Cells.read_cons, if_pos rfl]
    · rw [Cells.read_cons, if_neg (by omega)]
      exact ih h.2.2

/-- A write leaves every other cell alone. -/
theorem Cells.read_write_other_from {lo : Nat} {m : Cells w} (h : Cells.wfFrom lo m = true) {a b : Nat} (ne : b ≠ a)
    (v : BitVec w) : (m.write a v).read b = m.read b := by
  induction m generalizing lo with
  | nil =>
    unfold Cells.write
    split_ifs
    · rfl
    · rw [Cells.read_cons, if_neg (Ne.symm ne)]
  | cons c m ih =>
    obtain ⟨k, u⟩ := c
    rw [Cells.wfFrom_cons] at h
    unfold Cells.write
    split_ifs with lt hv eq hv
    · rfl
    · rw [Cells.read_cons, if_neg (Ne.symm ne)]
    · subst eq
      rw [Cells.read_cons, if_neg (Ne.symm ne)]
    · subst eq
      rw [Cells.read_cons, Cells.read_cons, if_neg (Ne.symm ne), if_neg (Ne.symm ne)]
    · rw [Cells.read_cons, Cells.read_cons]
      split_ifs
      · rfl
      · exact ih h.2.2

theorem Cells.read_write_same {m : Cells w} (h : m.wf = true) (a : Nat) (v : BitVec w) : (m.write a v).read a = v :=
  Cells.read_write_same_from h a v

theorem Cells.read_write_other {m : Cells w} (h : m.wf = true) {a b : Nat} (ne : b ≠ a) (v : BitVec w) :
    (m.write a v).read b = m.read b :=
  Cells.read_write_other_from h ne v

theorem Cells.read_write {m : Cells w} (h : m.wf = true) (a b : Nat) (v : BitVec w) :
    (m.write a v).read b = if b = a then v else m.read b := by
  split_ifs with e
  · subst e; exact Cells.read_write_same h b v
  · exact Cells.read_write_other h e v

/-! ## The canonical form is kept -/

theorem Cells.wfFrom_write {lo a : Nat} {m : Cells w} (h : Cells.wfFrom lo m = true) (le : lo ≤ a) (v : BitVec w) :
    Cells.wfFrom lo (m.write a v) = true := by
  induction m generalizing lo with
  | nil =>
    unfold Cells.write
    split_ifs with hv
    · rfl
    · rw [Cells.wfFrom_cons]; exact ⟨le, hv, rfl⟩
  | cons c m ih =>
    obtain ⟨k, u⟩ := c
    rw [Cells.wfFrom_cons] at h
    unfold Cells.write
    split_ifs with lt hv eq hv
    · rw [Cells.wfFrom_cons]; exact h
    · rw [Cells.wfFrom_cons, Cells.wfFrom_cons]; exact ⟨le, hv, lt, h.2⟩
    · exact Cells.wfFrom_mono h.2.2 (by omega)
    · rw [Cells.wfFrom_cons]; subst eq; exact ⟨le, hv, h.2.2⟩
    · rw [Cells.wfFrom_cons]
      exact ⟨h.1, h.2.1, ih h.2.2 (by omega)⟩

theorem Cells.wf_write {m : Cells w} (h : m.wf = true) (a : Nat) (v : BitVec w) : (m.write a v).wf = true :=
  Cells.wfFrom_write h (Nat.zero_le a) v

/-- A written list names no index but the written one and those it named before. -/
theorem Cells.mem_write {m : Cells w} {a : Nat} {v : BitVec w} {c : Nat × BitVec w} (h : c ∈ m.write a v) :
    c.1 = a ∨ c ∈ m := by
  induction m with
  | nil =>
    unfold Cells.write at h
    split_ifs at h
    · simp at h
    · simp at h; exact .inl (by rw [h])
  | cons d m ih =>
    obtain ⟨k, u⟩ := d
    unfold Cells.write at h
    split_ifs at h with lt hv eq hv
    · exact .inr h
    · rcases List.mem_cons.1 h with rfl | h
      · exact .inl rfl
      · exact .inr h
    · exact .inr (List.mem_cons_of_mem _ h)
    · rcases List.mem_cons.1 h with rfl | h
      · exact .inl rfl
      · exact .inr (List.mem_cons_of_mem _ h)
    · rcases List.mem_cons.1 h with rfl | h
      · exact .inr List.mem_cons_self
      · exact (ih h).imp id (List.mem_cons_of_mem _)

theorem Cells.below_write {n a : Nat} {m : Cells w} (h : m.below n = true) (lt : a < n) (v : BitVec w) :
    (m.write a v).below n = true := by
  unfold Cells.below at *
  rw [List.all_eq_true] at *
  intro c hc
  rcases Cells.mem_write hc with e | hm
  · simpa [e] using lt
  · exact h c hm

/-- A write inside the array keeps the array's form. -/
theorem Cells.good_write {n a : Nat} {m : Cells w} (h : m.good n = true) (lt : a < n) (v : BitVec w) :
    (m.write a v).good n = true := by
  simp only [Cells.good, Bool.and_eq_true] at *
  exact ⟨Cells.wf_write h.1 a v, Cells.below_write h.2 lt v⟩

theorem Cells.good_wf {n : Nat} {m : Cells w} (h : m.good n = true) : m.wf = true := by
  simp only [Cells.good, Bool.and_eq_true] at h
  exact h.1

theorem Cells.good_nil (n : Nat) : Cells.good n ([] : Cells w) = true := rfl

/-! ## Equal memories are equal data -/

theorem Cells.ext_from {lo : Nat} {m₁ m₂ : Cells w} (h₁ : Cells.wfFrom lo m₁ = true) (h₂ : Cells.wfFrom lo m₂ = true)
    (eq : ∀ a, m₁.read a = m₂.read a) : m₁ = m₂ := by
  induction m₁ generalizing lo m₂ with
  | nil =>
    cases m₂ with
    | nil => rfl
    | cons c m₂ =>
      obtain ⟨k, u⟩ := c
      rw [Cells.wfFrom_cons] at h₂
      have e := eq k
      rw [Cells.read_cons, if_pos rfl] at e
      exact absurd e.symm h₂.2.1
  | cons c m₁ ih =>
    obtain ⟨k, u⟩ := c
    rw [Cells.wfFrom_cons] at h₁
    cases m₂ with
    | nil =>
      have e := eq k
      rw [Cells.read_cons, if_pos rfl] at e
      exact absurd e h₁.2.1
    | cons c m₂ =>
      obtain ⟨j, y⟩ := c
      rw [Cells.wfFrom_cons] at h₂
      have ek := eq k
      have ej := eq j
      simp only [Cells.read_cons, if_true] at ek ej
      rcases Nat.lt_trichotomy k j with lt | rfl | gt
      · rw [if_neg (by omega), Cells.read_below h₂.2.2 (by omega)] at ek
        exact absurd ek h₁.2.1
      · simp only [if_true] at ek
        subst ek
        refine congrArg _ (ih h₁.2.2 h₂.2.2 fun a => ?_)
        by_cases ha : a < k + 1
        · rw [Cells.read_below h₁.2.2 ha, Cells.read_below h₂.2.2 ha]
        · have e := eq a
          rwa [Cells.read_cons, Cells.read_cons, if_neg (by omega), if_neg (by omega)] at e
      · rw [if_neg (by omega), Cells.read_below h₁.2.2 (by omega)] at ej
        exact absurd ej.symm h₂.2.1

/-- Two lists in canonical form with the same reads are the same list. -/
theorem Cells.ext {m₁ m₂ : Cells w} (h₁ : m₁.wf = true) (h₂ : m₂.wf = true) (eq : ∀ a, m₁.read a = m₂.read a) :
    m₁ = m₂ :=
  Cells.ext_from h₁ h₂ eq

/-- Writing what a cell already holds changes nothing. -/
theorem Cells.write_read {m : Cells w} (h : m.wf = true) (a : Nat) : m.write a (m.read a) = m := by
  refine Cells.ext (Cells.wf_write h a _) h fun b => ?_
  rw [Cells.read_write h]
  split_ifs with e
  · rw [e]
  · rfl

end Sys2Proof.Machine
end

