-- ==== Sys2Proof/Laws/State.lean ====
section
/-! SUPPORT. What each state update leaves in each field of State, one simp lemma per field per update, so that no proof
unfolds a record update. -/

namespace Sys2Proof.Machine

/-! ### setA -/

@[simp] theorem State.setA_a (s : State) (v : Byte) : (s.setA v).a = v := rfl
@[simp] theorem State.setA_x (s : State) (v : Byte) : (s.setA v).x = s.x := rfl
@[simp] theorem State.setA_y (s : State) (v : Byte) : (s.setA v).y = s.y := rfl
@[simp] theorem State.setA_sp (s : State) (v : Byte) : (s.setA v).sp = s.sp := rfl
@[simp] theorem State.setA_pc (s : State) (v : Byte) : (s.setA v).pc = s.pc := rfl
@[simp] theorem State.setA_p (s : State) (v : Byte) : (s.setA v).p = s.p := rfl
@[simp] theorem State.setA_cycles (s : State) (v : Byte) : (s.setA v).cycles = s.cycles := rfl
@[simp] theorem State.setA_stall (s : State) (v : Byte) : (s.setA v).stall = s.stall := rfl
@[simp] theorem State.setA_nmiPending (s : State) (v : Byte) : (s.setA v).nmiPending = s.nmiPending := rfl
@[simp] theorem State.setA_ram (s : State) (v : Byte) : (s.setA v).ram = s.ram := rfl
@[simp] theorem State.setA_prgRam (s : State) (v : Byte) : (s.setA v).prgRam = s.prgRam := rfl
@[simp] theorem State.setA_bankSel (s : State) (v : Byte) : (s.setA v).bankSel = s.bankSel := rfl
@[simp] theorem State.setA_cart (s : State) (v : Byte) : (s.setA v).cart = s.cart := rfl
@[simp] theorem State.setA_ppu (s : State) (v : Byte) : (s.setA v).ppu = s.ppu := rfl
@[simp] theorem State.setA_out (s : State) (v : Byte) : (s.setA v).out = s.out := rfl
@[simp] theorem State.setA_irqInputs (s : State) (v : Byte) : (s.setA v).irqInputs = s.irqInputs := rfl
@[simp] theorem State.setA_draws (s : State) (v : Byte) : (s.setA v).draws = s.draws := rfl
@[simp] theorem State.setA_params (s : State) (v : Byte) : (s.setA v).params = s.params := rfl

/-! ### setX -/

@[simp] theorem State.setX_a (s : State) (v : Byte) : (s.setX v).a = s.a := rfl
@[simp] theorem State.setX_x (s : State) (v : Byte) : (s.setX v).x = v := rfl
@[simp] theorem State.setX_y (s : State) (v : Byte) : (s.setX v).y = s.y := rfl
@[simp] theorem State.setX_sp (s : State) (v : Byte) : (s.setX v).sp = s.sp := rfl
@[simp] theorem State.setX_pc (s : State) (v : Byte) : (s.setX v).pc = s.pc := rfl
@[simp] theorem State.setX_p (s : State) (v : Byte) : (s.setX v).p = s.p := rfl
@[simp] theorem State.setX_cycles (s : State) (v : Byte) : (s.setX v).cycles = s.cycles := rfl
@[simp] theorem State.setX_stall (s : State) (v : Byte) : (s.setX v).stall = s.stall := rfl
@[simp] theorem State.setX_nmiPending (s : State) (v : Byte) : (s.setX v).nmiPending = s.nmiPending := rfl
@[simp] theorem State.setX_ram (s : State) (v : Byte) : (s.setX v).ram = s.ram := rfl
@[simp] theorem State.setX_prgRam (s : State) (v : Byte) : (s.setX v).prgRam = s.prgRam := rfl
@[simp] theorem State.setX_bankSel (s : State) (v : Byte) : (s.setX v).bankSel = s.bankSel := rfl
@[simp] theorem State.setX_cart (s : State) (v : Byte) : (s.setX v).cart = s.cart := rfl
@[simp] theorem State.setX_ppu (s : State) (v : Byte) : (s.setX v).ppu = s.ppu := rfl
@[simp] theorem State.setX_out (s : State) (v : Byte) : (s.setX v).out = s.out := rfl
@[simp] theorem State.setX_irqInputs (s : State) (v : Byte) : (s.setX v).irqInputs = s.irqInputs := rfl
@[simp] theorem State.setX_draws (s : State) (v : Byte) : (s.setX v).draws = s.draws := rfl
@[simp] theorem State.setX_params (s : State) (v : Byte) : (s.setX v).params = s.params := rfl

/-! ### setY -/

@[simp] theorem State.setY_a (s : State) (v : Byte) : (s.setY v).a = s.a := rfl
@[simp] theorem State.setY_x (s : State) (v : Byte) : (s.setY v).x = s.x := rfl
@[simp] theorem State.setY_y (s : State) (v : Byte) : (s.setY v).y = v := rfl
@[simp] theorem State.setY_sp (s : State) (v : Byte) : (s.setY v).sp = s.sp := rfl
@[simp] theorem State.setY_pc (s : State) (v : Byte) : (s.setY v).pc = s.pc := rfl
@[simp] theorem State.setY_p (s : State) (v : Byte) : (s.setY v).p = s.p := rfl
@[simp] theorem State.setY_cycles (s : State) (v : Byte) : (s.setY v).cycles = s.cycles := rfl
@[simp] theorem State.setY_stall (s : State) (v : Byte) : (s.setY v).stall = s.stall := rfl
@[simp] theorem State.setY_nmiPending (s : State) (v : Byte) : (s.setY v).nmiPending = s.nmiPending := rfl
@[simp] theorem State.setY_ram (s : State) (v : Byte) : (s.setY v).ram = s.ram := rfl
@[simp] theorem State.setY_prgRam (s : State) (v : Byte) : (s.setY v).prgRam = s.prgRam := rfl
@[simp] theorem State.setY_bankSel (s : State) (v : Byte) : (s.setY v).bankSel = s.bankSel := rfl
@[simp] theorem State.setY_cart (s : State) (v : Byte) : (s.setY v).cart = s.cart := rfl
@[simp] theorem State.setY_ppu (s : State) (v : Byte) : (s.setY v).ppu = s.ppu := rfl
@[simp] theorem State.setY_out (s : State) (v : Byte) : (s.setY v).out = s.out := rfl
@[simp] theorem State.setY_irqInputs (s : State) (v : Byte) : (s.setY v).irqInputs = s.irqInputs := rfl
@[simp] theorem State.setY_draws (s : State) (v : Byte) : (s.setY v).draws = s.draws := rfl
@[simp] theorem State.setY_params (s : State) (v : Byte) : (s.setY v).params = s.params := rfl

/-! ### setSp -/

@[simp] theorem State.setSp_a (s : State) (v : Byte) : (s.setSp v).a = s.a := rfl
@[simp] theorem State.setSp_x (s : State) (v : Byte) : (s.setSp v).x = s.x := rfl
@[simp] theorem State.setSp_y (s : State) (v : Byte) : (s.setSp v).y = s.y := rfl
@[simp] theorem State.setSp_sp (s : State) (v : Byte) : (s.setSp v).sp = v := rfl
@[simp] theorem State.setSp_pc (s : State) (v : Byte) : (s.setSp v).pc = s.pc := rfl
@[simp] theorem State.setSp_p (s : State) (v : Byte) : (s.setSp v).p = s.p := rfl
@[simp] theorem State.setSp_cycles (s : State) (v : Byte) : (s.setSp v).cycles = s.cycles := rfl
@[simp] theorem State.setSp_stall (s : State) (v : Byte) : (s.setSp v).stall = s.stall := rfl
@[simp] theorem State.setSp_nmiPending (s : State) (v : Byte) : (s.setSp v).nmiPending = s.nmiPending := rfl
@[simp] theorem State.setSp_ram (s : State) (v : Byte) : (s.setSp v).ram = s.ram := rfl
@[simp] theorem State.setSp_prgRam (s : State) (v : Byte) : (s.setSp v).prgRam = s.prgRam := rfl
@[simp] theorem State.setSp_bankSel (s : State) (v : Byte) : (s.setSp v).bankSel = s.bankSel := rfl
@[simp] theorem State.setSp_cart (s : State) (v : Byte) : (s.setSp v).cart = s.cart := rfl
@[simp] theorem State.setSp_ppu (s : State) (v : Byte) : (s.setSp v).ppu = s.ppu := rfl
@[simp] theorem State.setSp_out (s : State) (v : Byte) : (s.setSp v).out = s.out := rfl
@[simp] theorem State.setSp_irqInputs (s : State) (v : Byte) : (s.setSp v).irqInputs = s.irqInputs := rfl
@[simp] theorem State.setSp_draws (s : State) (v : Byte) : (s.setSp v).draws = s.draws := rfl
@[simp] theorem State.setSp_params (s : State) (v : Byte) : (s.setSp v).params = s.params := rfl

/-! ### setPc -/

@[simp] theorem State.setPc_a (s : State) (v : Word) : (s.setPc v).a = s.a := rfl
@[simp] theorem State.setPc_x (s : State) (v : Word) : (s.setPc v).x = s.x := rfl
@[simp] theorem State.setPc_y (s : State) (v : Word) : (s.setPc v).y = s.y := rfl
@[simp] theorem State.setPc_sp (s : State) (v : Word) : (s.setPc v).sp = s.sp := rfl
@[simp] theorem State.setPc_pc (s : State) (v : Word) : (s.setPc v).pc = v := rfl
@[simp] theorem State.setPc_p (s : State) (v : Word) : (s.setPc v).p = s.p := rfl
@[simp] theorem State.setPc_cycles (s : State) (v : Word) : (s.setPc v).cycles = s.cycles := rfl
@[simp] theorem State.setPc_stall (s : State) (v : Word) : (s.setPc v).stall = s.stall := rfl
@[simp] theorem State.setPc_nmiPending (s : State) (v : Word) : (s.setPc v).nmiPending = s.nmiPending := rfl
@[simp] theorem State.setPc_ram (s : State) (v : Word) : (s.setPc v).ram = s.ram := rfl
@[simp] theorem State.setPc_prgRam (s : State) (v : Word) : (s.setPc v).prgRam = s.prgRam := rfl
@[simp] theorem State.setPc_bankSel (s : State) (v : Word) : (s.setPc v).bankSel = s.bankSel := rfl
@[simp] theorem State.setPc_cart (s : State) (v : Word) : (s.setPc v).cart = s.cart := rfl
@[simp] theorem State.setPc_ppu (s : State) (v : Word) : (s.setPc v).ppu = s.ppu := rfl
@[simp] theorem State.setPc_out (s : State) (v : Word) : (s.setPc v).out = s.out := rfl
@[simp] theorem State.setPc_irqInputs (s : State) (v : Word) : (s.setPc v).irqInputs = s.irqInputs := rfl
@[simp] theorem State.setPc_draws (s : State) (v : Word) : (s.setPc v).draws = s.draws := rfl
@[simp] theorem State.setPc_params (s : State) (v : Word) : (s.setPc v).params = s.params := rfl

/-! ### setP -/

@[simp] theorem State.setP_a (s : State) (q : Status) : (s.setP q).a = s.a := rfl
@[simp] theorem State.setP_x (s : State) (q : Status) : (s.setP q).x = s.x := rfl
@[simp] theorem State.setP_y (s : State) (q : Status) : (s.setP q).y = s.y := rfl
@[simp] theorem State.setP_sp (s : State) (q : Status) : (s.setP q).sp = s.sp := rfl
@[simp] theorem State.setP_pc (s : State) (q : Status) : (s.setP q).pc = s.pc := rfl
@[simp] theorem State.setP_p (s : State) (q : Status) : (s.setP q).p = q := rfl
@[simp] theorem State.setP_cycles (s : State) (q : Status) : (s.setP q).cycles = s.cycles := rfl
@[simp] theorem State.setP_stall (s : State) (q : Status) : (s.setP q).stall = s.stall := rfl
@[simp] theorem State.setP_nmiPending (s : State) (q : Status) : (s.setP q).nmiPending = s.nmiPending := rfl
@[simp] theorem State.setP_ram (s : State) (q : Status) : (s.setP q).ram = s.ram := rfl
@[simp] theorem State.setP_prgRam (s : State) (q : Status) : (s.setP q).prgRam = s.prgRam := rfl
@[simp] theorem State.setP_bankSel (s : State) (q : Status) : (s.setP q).bankSel = s.bankSel := rfl
@[simp] theorem State.setP_cart (s : State) (q : Status) : (s.setP q).cart = s.cart := rfl
@[simp] theorem State.setP_ppu (s : State) (q : Status) : (s.setP q).ppu = s.ppu := rfl
@[simp] theorem State.setP_out (s : State) (q : Status) : (s.setP q).out = s.out := rfl
@[simp] theorem State.setP_irqInputs (s : State) (q : Status) : (s.setP q).irqInputs = s.irqInputs := rfl
@[simp] theorem State.setP_draws (s : State) (q : Status) : (s.setP q).draws = s.draws := rfl
@[simp] theorem State.setP_params (s : State) (q : Status) : (s.setP q).params = s.params := rfl

/-! ### setC -/

@[simp] theorem State.setC_a (s : State) (b : Bool) : (s.setC b).a = s.a := rfl
@[simp] theorem State.setC_x (s : State) (b : Bool) : (s.setC b).x = s.x := rfl
@[simp] theorem State.setC_y (s : State) (b : Bool) : (s.setC b).y = s.y := rfl
@[simp] theorem State.setC_sp (s : State) (b : Bool) : (s.setC b).sp = s.sp := rfl
@[simp] theorem State.setC_pc (s : State) (b : Bool) : (s.setC b).pc = s.pc := rfl
@[simp] theorem State.setC_p (s : State) (b : Bool) : (s.setC b).p = { s.p with c := b } := rfl
@[simp] theorem State.setC_cycles (s : State) (b : Bool) : (s.setC b).cycles = s.cycles := rfl
@[simp] theorem State.setC_stall (s : State) (b : Bool) : (s.setC b).stall = s.stall := rfl
@[simp] theorem State.setC_nmiPending (s : State) (b : Bool) : (s.setC b).nmiPending = s.nmiPending := rfl
@[simp] theorem State.setC_ram (s : State) (b : Bool) : (s.setC b).ram = s.ram := rfl
@[simp] theorem State.setC_prgRam (s : State) (b : Bool) : (s.setC b).prgRam = s.prgRam := rfl
@[simp] theorem State.setC_bankSel (s : State) (b : Bool) : (s.setC b).bankSel = s.bankSel := rfl
@[simp] theorem State.setC_cart (s : State) (b : Bool) : (s.setC b).cart = s.cart := rfl
@[simp] theorem State.setC_ppu (s : State) (b : Bool) : (s.setC b).ppu = s.ppu := rfl
@[simp] theorem State.setC_out (s : State) (b : Bool) : (s.setC b).out = s.out := rfl
@[simp] theorem State.setC_irqInputs (s : State) (b : Bool) : (s.setC b).irqInputs = s.irqInputs := rfl
@[simp] theorem State.setC_draws (s : State) (b : Bool) : (s.setC b).draws = s.draws := rfl
@[simp] theorem State.setC_params (s : State) (b : Bool) : (s.setC b).params = s.params := rfl

/-! ### setI -/

@[simp] theorem State.setI_a (s : State) (b : Bool) : (s.setI b).a = s.a := rfl
@[simp] theorem State.setI_x (s : State) (b : Bool) : (s.setI b).x = s.x := rfl
@[simp] theorem State.setI_y (s : State) (b : Bool) : (s.setI b).y = s.y := rfl
@[simp] theorem State.setI_sp (s : State) (b : Bool) : (s.setI b).sp = s.sp := rfl
@[simp] theorem State.setI_pc (s : State) (b : Bool) : (s.setI b).pc = s.pc := rfl
@[simp] theorem State.setI_p (s : State) (b : Bool) : (s.setI b).p = { s.p with i := b } := rfl
@[simp] theorem State.setI_cycles (s : State) (b : Bool) : (s.setI b).cycles = s.cycles := rfl
@[simp] theorem State.setI_stall (s : State) (b : Bool) : (s.setI b).stall = s.stall := rfl
@[simp] theorem State.setI_nmiPending (s : State) (b : Bool) : (s.setI b).nmiPending = s.nmiPending := rfl
@[simp] theorem State.setI_ram (s : State) (b : Bool) : (s.setI b).ram = s.ram := rfl
@[simp] theorem State.setI_prgRam (s : State) (b : Bool) : (s.setI b).prgRam = s.prgRam := rfl
@[simp] theorem State.setI_bankSel (s : State) (b : Bool) : (s.setI b).bankSel = s.bankSel := rfl
@[simp] theorem State.setI_cart (s : State) (b : Bool) : (s.setI b).cart = s.cart := rfl
@[simp] theorem State.setI_ppu (s : State) (b : Bool) : (s.setI b).ppu = s.ppu := rfl
@[simp] theorem State.setI_out (s : State) (b : Bool) : (s.setI b).out = s.out := rfl
@[simp] theorem State.setI_irqInputs (s : State) (b : Bool) : (s.setI b).irqInputs = s.irqInputs := rfl
@[simp] theorem State.setI_draws (s : State) (b : Bool) : (s.setI b).draws = s.draws := rfl
@[simp] theorem State.setI_params (s : State) (b : Bool) : (s.setI b).params = s.params := rfl

/-! ### setD -/

@[simp] theorem State.setD_a (s : State) (b : Bool) : (s.setD b).a = s.a := rfl
@[simp] theorem State.setD_x (s : State) (b : Bool) : (s.setD b).x = s.x := rfl
@[simp] theorem State.setD_y (s : State) (b : Bool) : (s.setD b).y = s.y := rfl
@[simp] theorem State.setD_sp (s : State) (b : Bool) : (s.setD b).sp = s.sp := rfl
@[simp] theorem State.setD_pc (s : State) (b : Bool) : (s.setD b).pc = s.pc := rfl
@[simp] theorem State.setD_p (s : State) (b : Bool) : (s.setD b).p = { s.p with d := b } := rfl
@[simp] theorem State.setD_cycles (s : State) (b : Bool) : (s.setD b).cycles = s.cycles := rfl
@[simp] theorem State.setD_stall (s : State) (b : Bool) : (s.setD b).stall = s.stall := rfl
@[simp] theorem State.setD_nmiPending (s : State) (b : Bool) : (s.setD b).nmiPending = s.nmiPending := rfl
@[simp] theorem State.setD_ram (s : State) (b : Bool) : (s.setD b).ram = s.ram := rfl
@[simp] theorem State.setD_prgRam (s : State) (b : Bool) : (s.setD b).prgRam = s.prgRam := rfl
@[simp] theorem State.setD_bankSel (s : State) (b : Bool) : (s.setD b).bankSel = s.bankSel := rfl
@[simp] theorem State.setD_cart (s : State) (b : Bool) : (s.setD b).cart = s.cart := rfl
@[simp] theorem State.setD_ppu (s : State) (b : Bool) : (s.setD b).ppu = s.ppu := rfl
@[simp] theorem State.setD_out (s : State) (b : Bool) : (s.setD b).out = s.out := rfl
@[simp] theorem State.setD_irqInputs (s : State) (b : Bool) : (s.setD b).irqInputs = s.irqInputs := rfl
@[simp] theorem State.setD_draws (s : State) (b : Bool) : (s.setD b).draws = s.draws := rfl
@[simp] theorem State.setD_params (s : State) (b : Bool) : (s.setD b).params = s.params := rfl

/-! ### setV -/

@[simp] theorem State.setV_a (s : State) (b : Bool) : (s.setV b).a = s.a := rfl
@[simp] theorem State.setV_x (s : State) (b : Bool) : (s.setV b).x = s.x := rfl
@[simp] theorem State.setV_y (s : State) (b : Bool) : (s.setV b).y = s.y := rfl
@[simp] theorem State.setV_sp (s : State) (b : Bool) : (s.setV b).sp = s.sp := rfl
@[simp] theorem State.setV_pc (s : State) (b : Bool) : (s.setV b).pc = s.pc := rfl
@[simp] theorem State.setV_p (s : State) (b : Bool) : (s.setV b).p = { s.p with v := b } := rfl
@[simp] theorem State.setV_cycles (s : State) (b : Bool) : (s.setV b).cycles = s.cycles := rfl
@[simp] theorem State.setV_stall (s : State) (b : Bool) : (s.setV b).stall = s.stall := rfl
@[simp] theorem State.setV_nmiPending (s : State) (b : Bool) : (s.setV b).nmiPending = s.nmiPending := rfl
@[simp] theorem State.setV_ram (s : State) (b : Bool) : (s.setV b).ram = s.ram := rfl
@[simp] theorem State.setV_prgRam (s : State) (b : Bool) : (s.setV b).prgRam = s.prgRam := rfl
@[simp] theorem State.setV_bankSel (s : State) (b : Bool) : (s.setV b).bankSel = s.bankSel := rfl
@[simp] theorem State.setV_cart (s : State) (b : Bool) : (s.setV b).cart = s.cart := rfl
@[simp] theorem State.setV_ppu (s : State) (b : Bool) : (s.setV b).ppu = s.ppu := rfl
@[simp] theorem State.setV_out (s : State) (b : Bool) : (s.setV b).out = s.out := rfl
@[simp] theorem State.setV_irqInputs (s : State) (b : Bool) : (s.setV b).irqInputs = s.irqInputs := rfl
@[simp] theorem State.setV_draws (s : State) (b : Bool) : (s.setV b).draws = s.draws := rfl
@[simp] theorem State.setV_params (s : State) (b : Bool) : (s.setV b).params = s.params := rfl

/-! ### setZN -/

@[simp] theorem State.setZN_a (s : State) (r : Byte) : (s.setZN r).a = s.a := rfl
@[simp] theorem State.setZN_x (s : State) (r : Byte) : (s.setZN r).x = s.x := rfl
@[simp] theorem State.setZN_y (s : State) (r : Byte) : (s.setZN r).y = s.y := rfl
@[simp] theorem State.setZN_sp (s : State) (r : Byte) : (s.setZN r).sp = s.sp := rfl
@[simp] theorem State.setZN_pc (s : State) (r : Byte) : (s.setZN r).pc = s.pc := rfl
@[simp] theorem State.setZN_p (s : State) (r : Byte) : (s.setZN r).p = { s.p with z := r == 0, n := r.getLsbD 7 } := rfl
@[simp] theorem State.setZN_cycles (s : State) (r : Byte) : (s.setZN r).cycles = s.cycles := rfl
@[simp] theorem State.setZN_stall (s : State) (r : Byte) : (s.setZN r).stall = s.stall := rfl
@[simp] theorem State.setZN_nmiPending (s : State) (r : Byte) : (s.setZN r).nmiPending = s.nmiPending := rfl
@[simp] theorem State.setZN_ram (s : State) (r : Byte) : (s.setZN r).ram = s.ram := rfl
@[simp] theorem State.setZN_prgRam (s : State) (r : Byte) : (s.setZN r).prgRam = s.prgRam := rfl
@[simp] theorem State.setZN_bankSel (s : State) (r : Byte) : (s.setZN r).bankSel = s.bankSel := rfl
@[simp] theorem State.setZN_cart (s : State) (r : Byte) : (s.setZN r).cart = s.cart := rfl
@[simp] theorem State.setZN_ppu (s : State) (r : Byte) : (s.setZN r).ppu = s.ppu := rfl
@[simp] theorem State.setZN_out (s : State) (r : Byte) : (s.setZN r).out = s.out := rfl
@[simp] theorem State.setZN_irqInputs (s : State) (r : Byte) : (s.setZN r).irqInputs = s.irqInputs := rfl
@[simp] theorem State.setZN_draws (s : State) (r : Byte) : (s.setZN r).draws = s.draws := rfl
@[simp] theorem State.setZN_params (s : State) (r : Byte) : (s.setZN r).params = s.params := rfl

/-! ### advance -/

@[simp] theorem State.advance_a (s : State) (n c : Nat) : (s.advance n c).a = s.a := rfl
@[simp] theorem State.advance_x (s : State) (n c : Nat) : (s.advance n c).x = s.x := rfl
@[simp] theorem State.advance_y (s : State) (n c : Nat) : (s.advance n c).y = s.y := rfl
@[simp] theorem State.advance_sp (s : State) (n c : Nat) : (s.advance n c).sp = s.sp := rfl
@[simp] theorem State.advance_pc (s : State) (n c : Nat) : (s.advance n c).pc = s.pc + BitVec.ofNat 16 n := rfl
@[simp] theorem State.advance_p (s : State) (n c : Nat) : (s.advance n c).p = s.p := rfl
@[simp] theorem State.advance_cycles (s : State) (n c : Nat) : (s.advance n c).cycles = s.cycles + c := rfl
@[simp] theorem State.advance_stall (s : State) (n c : Nat) : (s.advance n c).stall = s.stall := rfl
@[simp] theorem State.advance_nmiPending (s : State) (n c : Nat) : (s.advance n c).nmiPending = s.nmiPending := rfl
@[simp] theorem State.advance_ram (s : State) (n c : Nat) : (s.advance n c).ram = s.ram := rfl
@[simp] theorem State.advance_prgRam (s : State) (n c : Nat) : (s.advance n c).prgRam = s.prgRam := rfl
@[simp] theorem State.advance_bankSel (s : State) (n c : Nat) : (s.advance n c).bankSel = s.bankSel := rfl
@[simp] theorem State.advance_cart (s : State) (n c : Nat) : (s.advance n c).cart = s.cart := rfl
@[simp] theorem State.advance_ppu (s : State) (n c : Nat) : (s.advance n c).ppu = s.ppu := rfl
@[simp] theorem State.advance_out (s : State) (n c : Nat) : (s.advance n c).out = s.out := rfl
@[simp] theorem State.advance_irqInputs (s : State) (n c : Nat) : (s.advance n c).irqInputs = s.irqInputs := rfl
@[simp] theorem State.advance_draws (s : State) (n c : Nat) : (s.advance n c).draws = s.draws := rfl
@[simp] theorem State.advance_params (s : State) (n c : Nat) : (s.advance n c).params = s.params := rfl

/-! ### addCycles -/

@[simp] theorem State.addCycles_a (s : State) (c : Nat) : (s.addCycles c).a = s.a := rfl
@[simp] theorem State.addCycles_x (s : State) (c : Nat) : (s.addCycles c).x = s.x := rfl
@[simp] theorem State.addCycles_y (s : State) (c : Nat) : (s.addCycles c).y = s.y := rfl
@[simp] theorem State.addCycles_sp (s : State) (c : Nat) : (s.addCycles c).sp = s.sp := rfl
@[simp] theorem State.addCycles_pc (s : State) (c : Nat) : (s.addCycles c).pc = s.pc := rfl
@[simp] theorem State.addCycles_p (s : State) (c : Nat) : (s.addCycles c).p = s.p := rfl
@[simp] theorem State.addCycles_cycles (s : State) (c : Nat) : (s.addCycles c).cycles = s.cycles + c := rfl
@[simp] theorem State.addCycles_stall (s : State) (c : Nat) : (s.addCycles c).stall = s.stall := rfl
@[simp] theorem State.addCycles_nmiPending (s : State) (c : Nat) : (s.addCycles c).nmiPending = s.nmiPending := rfl
@[simp] theorem State.addCycles_ram (s : State) (c : Nat) : (s.addCycles c).ram = s.ram := rfl
@[simp] theorem State.addCycles_prgRam (s : State) (c : Nat) : (s.addCycles c).prgRam = s.prgRam := rfl
@[simp] theorem State.addCycles_bankSel (s : State) (c : Nat) : (s.addCycles c).bankSel = s.bankSel := rfl
@[simp] theorem State.addCycles_cart (s : State) (c : Nat) : (s.addCycles c).cart = s.cart := rfl
@[simp] theorem State.addCycles_ppu (s : State) (c : Nat) : (s.addCycles c).ppu = s.ppu := rfl
@[simp] theorem State.addCycles_out (s : State) (c : Nat) : (s.addCycles c).out = s.out := rfl
@[simp] theorem State.addCycles_irqInputs (s : State) (c : Nat) : (s.addCycles c).irqInputs = s.irqInputs := rfl
@[simp] theorem State.addCycles_draws (s : State) (c : Nat) : (s.addCycles c).draws = s.draws := rfl
@[simp] theorem State.addCycles_params (s : State) (c : Nat) : (s.addCycles c).params = s.params := rfl

/-! ### addIntoA -/

@[simp] theorem State.addIntoA_a (s : State) (m : Byte) : (s.addIntoA m).a = addResult s.a m s.p.c := rfl
@[simp] theorem State.addIntoA_x (s : State) (m : Byte) : (s.addIntoA m).x = s.x := rfl
@[simp] theorem State.addIntoA_y (s : State) (m : Byte) : (s.addIntoA m).y = s.y := rfl
@[simp] theorem State.addIntoA_sp (s : State) (m : Byte) : (s.addIntoA m).sp = s.sp := rfl
@[simp] theorem State.addIntoA_pc (s : State) (m : Byte) : (s.addIntoA m).pc = s.pc := rfl
@[simp] theorem State.addIntoA_p (s : State) (m : Byte) :
    (s.addIntoA m).p =
      { s.p with c := addCarry s.a m s.p.c, v := addOverflow s.a m s.p.c, z := addResult s.a m s.p.c == 0, n := (addResult s.a m s.p.c).getLsbD 7 } := rfl
@[simp] theorem State.addIntoA_cycles (s : State) (m : Byte) : (s.addIntoA m).cycles = s.cycles := rfl
@[simp] theorem State.addIntoA_stall (s : State) (m : Byte) : (s.addIntoA m).stall = s.stall := rfl
@[simp] theorem State.addIntoA_nmiPending (s : State) (m : Byte) : (s.addIntoA m).nmiPending = s.nmiPending := rfl
@[simp] theorem State.addIntoA_ram (s : State) (m : Byte) : (s.addIntoA m).ram = s.ram := rfl
@[simp] theorem State.addIntoA_prgRam (s : State) (m : Byte) : (s.addIntoA m).prgRam = s.prgRam := rfl
@[simp] theorem State.addIntoA_bankSel (s : State) (m : Byte) : (s.addIntoA m).bankSel = s.bankSel := rfl
@[simp] theorem State.addIntoA_cart (s : State) (m : Byte) : (s.addIntoA m).cart = s.cart := rfl
@[simp] theorem State.addIntoA_ppu (s : State) (m : Byte) : (s.addIntoA m).ppu = s.ppu := rfl
@[simp] theorem State.addIntoA_out (s : State) (m : Byte) : (s.addIntoA m).out = s.out := rfl
@[simp] theorem State.addIntoA_irqInputs (s : State) (m : Byte) : (s.addIntoA m).irqInputs = s.irqInputs := rfl
@[simp] theorem State.addIntoA_draws (s : State) (m : Byte) : (s.addIntoA m).draws = s.draws := rfl
@[simp] theorem State.addIntoA_params (s : State) (m : Byte) : (s.addIntoA m).params = s.params := rfl

/-! ### compare -/

@[simp] theorem State.compare_a (s : State) (r m : Byte) : (s.compare r m).a = s.a := rfl
@[simp] theorem State.compare_x (s : State) (r m : Byte) : (s.compare r m).x = s.x := rfl
@[simp] theorem State.compare_y (s : State) (r m : Byte) : (s.compare r m).y = s.y := rfl
@[simp] theorem State.compare_sp (s : State) (r m : Byte) : (s.compare r m).sp = s.sp := rfl
@[simp] theorem State.compare_pc (s : State) (r m : Byte) : (s.compare r m).pc = s.pc := rfl
@[simp] theorem State.compare_p (s : State) (r m : Byte) :
    (s.compare r m).p = { s.p with c := decide (m.toNat ≤ r.toNat), z := r - m == 0, n := (r - m).getLsbD 7 } := rfl
@[simp] theorem State.compare_cycles (s : State) (r m : Byte) : (s.compare r m).cycles = s.cycles := rfl
@[simp] theorem State.compare_stall (s : State) (r m : Byte) : (s.compare r m).stall = s.stall := rfl
@[simp] theorem State.compare_nmiPending (s : State) (r m : Byte) : (s.compare r m).nmiPending = s.nmiPending := rfl
@[simp] theorem State.compare_ram (s : State) (r m : Byte) : (s.compare r m).ram = s.ram := rfl
@[simp] theorem State.compare_prgRam (s : State) (r m : Byte) : (s.compare r m).prgRam = s.prgRam := rfl
@[simp] theorem State.compare_bankSel (s : State) (r m : Byte) : (s.compare r m).bankSel = s.bankSel := rfl
@[simp] theorem State.compare_cart (s : State) (r m : Byte) : (s.compare r m).cart = s.cart := rfl
@[simp] theorem State.compare_ppu (s : State) (r m : Byte) : (s.compare r m).ppu = s.ppu := rfl
@[simp] theorem State.compare_out (s : State) (r m : Byte) : (s.compare r m).out = s.out := rfl
@[simp] theorem State.compare_irqInputs (s : State) (r m : Byte) : (s.compare r m).irqInputs = s.irqInputs := rfl
@[simp] theorem State.compare_draws (s : State) (r m : Byte) : (s.compare r m).draws = s.draws := rfl
@[simp] theorem State.compare_params (s : State) (r m : Byte) : (s.compare r m).params = s.params := rfl

/-! ### bitTest -/

@[simp] theorem State.bitTest_a (s : State) (m : Byte) : (s.bitTest m).a = s.a := rfl
@[simp] theorem State.bitTest_x (s : State) (m : Byte) : (s.bitTest m).x = s.x := rfl
@[simp] theorem State.bitTest_y (s : State) (m : Byte) : (s.bitTest m).y = s.y := rfl
@[simp] theorem State.bitTest_sp (s : State) (m : Byte) : (s.bitTest m).sp = s.sp := rfl
@[simp] theorem State.bitTest_pc (s : State) (m : Byte) : (s.bitTest m).pc = s.pc := rfl
@[simp] theorem State.bitTest_p (s : State) (m : Byte) :
    (s.bitTest m).p = { s.p with z := s.a &&& m == 0, v := m.getLsbD 6, n := m.getLsbD 7 } := rfl
@[simp] theorem State.bitTest_cycles (s : State) (m : Byte) : (s.bitTest m).cycles = s.cycles := rfl
@[simp] theorem State.bitTest_stall (s : State) (m : Byte) : (s.bitTest m).stall = s.stall := rfl
@[simp] theorem State.bitTest_nmiPending (s : State) (m : Byte) : (s.bitTest m).nmiPending = s.nmiPending := rfl
@[simp] theorem State.bitTest_ram (s : State) (m : Byte) : (s.bitTest m).ram = s.ram := rfl
@[simp] theorem State.bitTest_prgRam (s : State) (m : Byte) : (s.bitTest m).prgRam = s.prgRam := rfl
@[simp] theorem State.bitTest_bankSel (s : State) (m : Byte) : (s.bitTest m).bankSel = s.bankSel := rfl
@[simp] theorem State.bitTest_cart (s : State) (m : Byte) : (s.bitTest m).cart = s.cart := rfl
@[simp] theorem State.bitTest_ppu (s : State) (m : Byte) : (s.bitTest m).ppu = s.ppu := rfl
@[simp] theorem State.bitTest_out (s : State) (m : Byte) : (s.bitTest m).out = s.out := rfl
@[simp] theorem State.bitTest_irqInputs (s : State) (m : Byte) : (s.bitTest m).irqInputs = s.irqInputs := rfl
@[simp] theorem State.bitTest_draws (s : State) (m : Byte) : (s.bitTest m).draws = s.draws := rfl
@[simp] theorem State.bitTest_params (s : State) (m : Byte) : (s.bitTest m).params = s.params := rfl

/-! ### setPpu -/

@[simp] theorem State.setPpu_a (s : State) (q : Ppu) : (s.setPpu q).a = s.a := rfl
@[simp] theorem State.setPpu_x (s : State) (q : Ppu) : (s.setPpu q).x = s.x := rfl
@[simp] theorem State.setPpu_y (s : State) (q : Ppu) : (s.setPpu q).y = s.y := rfl
@[simp] theorem State.setPpu_sp (s : State) (q : Ppu) : (s.setPpu q).sp = s.sp := rfl
@[simp] theorem State.setPpu_pc (s : State) (q : Ppu) : (s.setPpu q).pc = s.pc := rfl
@[simp] theorem State.setPpu_p (s : State) (q : Ppu) : (s.setPpu q).p = s.p := rfl
@[simp] theorem State.setPpu_cycles (s : State) (q : Ppu) : (s.setPpu q).cycles = s.cycles := rfl
@[simp] theorem State.setPpu_stall (s : State) (q : Ppu) : (s.setPpu q).stall = s.stall := rfl
@[simp] theorem State.setPpu_nmiPending (s : State) (q : Ppu) : (s.setPpu q).nmiPending = s.nmiPending := rfl
@[simp] theorem State.setPpu_ram (s : State) (q : Ppu) : (s.setPpu q).ram = s.ram := rfl
@[simp] theorem State.setPpu_prgRam (s : State) (q : Ppu) : (s.setPpu q).prgRam = s.prgRam := rfl
@[simp] theorem State.setPpu_bankSel (s : State) (q : Ppu) : (s.setPpu q).bankSel = s.bankSel := rfl
@[simp] theorem State.setPpu_cart (s : State) (q : Ppu) : (s.setPpu q).cart = s.cart := rfl
@[simp] theorem State.setPpu_ppu (s : State) (q : Ppu) : (s.setPpu q).ppu = q := rfl
@[simp] theorem State.setPpu_out (s : State) (q : Ppu) : (s.setPpu q).out = s.out := rfl
@[simp] theorem State.setPpu_irqInputs (s : State) (q : Ppu) : (s.setPpu q).irqInputs = s.irqInputs := rfl
@[simp] theorem State.setPpu_draws (s : State) (q : Ppu) : (s.setPpu q).draws = s.draws := rfl
@[simp] theorem State.setPpu_params (s : State) (q : Ppu) : (s.setPpu q).params = s.params := rfl

/-! ### setLatch -/

@[simp] theorem State.setLatch_a (s : State) (d : Byte) : (s.setLatch d).a = s.a := rfl
@[simp] theorem State.setLatch_x (s : State) (d : Byte) : (s.setLatch d).x = s.x := rfl
@[simp] theorem State.setLatch_y (s : State) (d : Byte) : (s.setLatch d).y = s.y := rfl
@[simp] theorem State.setLatch_sp (s : State) (d : Byte) : (s.setLatch d).sp = s.sp := rfl
@[simp] theorem State.setLatch_pc (s : State) (d : Byte) : (s.setLatch d).pc = s.pc := rfl
@[simp] theorem State.setLatch_p (s : State) (d : Byte) : (s.setLatch d).p = s.p := rfl
@[simp] theorem State.setLatch_cycles (s : State) (d : Byte) : (s.setLatch d).cycles = s.cycles := rfl
@[simp] theorem State.setLatch_stall (s : State) (d : Byte) : (s.setLatch d).stall = s.stall := rfl
@[simp] theorem State.setLatch_nmiPending (s : State) (d : Byte) : (s.setLatch d).nmiPending = s.nmiPending := rfl
@[simp] theorem State.setLatch_ram (s : State) (d : Byte) : (s.setLatch d).ram = s.ram := rfl
@[simp] theorem State.setLatch_prgRam (s : State) (d : Byte) : (s.setLatch d).prgRam = s.prgRam := rfl
@[simp] theorem State.setLatch_bankSel (s : State) (d : Byte) : (s.setLatch d).bankSel = s.bankSel := rfl
@[simp] theorem State.setLatch_cart (s : State) (d : Byte) : (s.setLatch d).cart = s.cart := rfl
@[simp] theorem State.setLatch_ppu (s : State) (d : Byte) : (s.setLatch d).ppu = { s.ppu with latch := d } := rfl
@[simp] theorem State.setLatch_out (s : State) (d : Byte) : (s.setLatch d).out = s.out := rfl
@[simp] theorem State.setLatch_irqInputs (s : State) (d : Byte) : (s.setLatch d).irqInputs = s.irqInputs := rfl
@[simp] theorem State.setLatch_draws (s : State) (d : Byte) : (s.setLatch d).draws = s.draws := rfl
@[simp] theorem State.setLatch_params (s : State) (d : Byte) : (s.setLatch d).params = s.params := rfl

/-! ### writeRam -/

@[simp] theorem State.writeRam_a (s : State) (a : Word) (v : Byte) : (s.writeRam a v).a = s.a := rfl
@[simp] theorem State.writeRam_x (s : State) (a : Word) (v : Byte) : (s.writeRam a v).x = s.x := rfl
@[simp] theorem State.writeRam_y (s : State) (a : Word) (v : Byte) : (s.writeRam a v).y = s.y := rfl
@[simp] theorem State.writeRam_sp (s : State) (a : Word) (v : Byte) : (s.writeRam a v).sp = s.sp := rfl
@[simp] theorem State.writeRam_pc (s : State) (a : Word) (v : Byte) : (s.writeRam a v).pc = s.pc := rfl
@[simp] theorem State.writeRam_p (s : State) (a : Word) (v : Byte) : (s.writeRam a v).p = s.p := rfl
@[simp] theorem State.writeRam_cycles (s : State) (a : Word) (v : Byte) : (s.writeRam a v).cycles = s.cycles := rfl
@[simp] theorem State.writeRam_stall (s : State) (a : Word) (v : Byte) : (s.writeRam a v).stall = s.stall := rfl
@[simp] theorem State.writeRam_nmiPending (s : State) (a : Word) (v : Byte) :
    (s.writeRam a v).nmiPending = s.nmiPending := rfl
@[simp] theorem State.writeRam_ram (s : State) (a : Word) (v : Byte) :
    (s.writeRam a v).ram = s.ram.write (ramIndex a) v := rfl
@[simp] theorem State.writeRam_prgRam (s : State) (a : Word) (v : Byte) : (s.writeRam a v).prgRam = s.prgRam := rfl
@[simp] theorem State.writeRam_bankSel (s : State) (a : Word) (v : Byte) : (s.writeRam a v).bankSel = s.bankSel := rfl
@[simp] theorem State.writeRam_cart (s : State) (a : Word) (v : Byte) : (s.writeRam a v).cart = s.cart := rfl
@[simp] theorem State.writeRam_ppu (s : State) (a : Word) (v : Byte) : (s.writeRam a v).ppu = s.ppu := rfl
@[simp] theorem State.writeRam_out (s : State) (a : Word) (v : Byte) : (s.writeRam a v).out = s.out := rfl
@[simp] theorem State.writeRam_irqInputs (s : State) (a : Word) (v : Byte) :
    (s.writeRam a v).irqInputs = s.irqInputs := rfl
@[simp] theorem State.writeRam_draws (s : State) (a : Word) (v : Byte) : (s.writeRam a v).draws = s.draws := rfl
@[simp] theorem State.writeRam_params (s : State) (a : Word) (v : Byte) : (s.writeRam a v).params = s.params := rfl

/-! ### writePrgRam -/

@[simp] theorem State.writePrgRam_a (s : State) (a : Word) (v : Byte) : (s.writePrgRam a v).a = s.a := rfl
@[simp] theorem State.writePrgRam_x (s : State) (a : Word) (v : Byte) : (s.writePrgRam a v).x = s.x := rfl
@[simp] theorem State.writePrgRam_y (s : State) (a : Word) (v : Byte) : (s.writePrgRam a v).y = s.y := rfl
@[simp] theorem State.writePrgRam_sp (s : State) (a : Word) (v : Byte) : (s.writePrgRam a v).sp = s.sp := rfl
@[simp] theorem State.writePrgRam_pc (s : State) (a : Word) (v : Byte) : (s.writePrgRam a v).pc = s.pc := rfl
@[simp] theorem State.writePrgRam_p (s : State) (a : Word) (v : Byte) : (s.writePrgRam a v).p = s.p := rfl
@[simp] theorem State.writePrgRam_cycles (s : State) (a : Word) (v : Byte) :
    (s.writePrgRam a v).cycles = s.cycles := rfl
@[simp] theorem State.writePrgRam_stall (s : State) (a : Word) (v : Byte) : (s.writePrgRam a v).stall = s.stall := rfl
@[simp] theorem State.writePrgRam_nmiPending (s : State) (a : Word) (v : Byte) :
    (s.writePrgRam a v).nmiPending = s.nmiPending := rfl
@[simp] theorem State.writePrgRam_ram (s : State) (a : Word) (v : Byte) : (s.writePrgRam a v).ram = s.ram := rfl
@[simp] theorem State.writePrgRam_prgRam (s : State) (a : Word) (v : Byte) :
    (s.writePrgRam a v).prgRam = s.prgRam.write (prgRamIndex a) v := rfl
@[simp] theorem State.writePrgRam_bankSel (s : State) (a : Word) (v : Byte) :
    (s.writePrgRam a v).bankSel = s.bankSel := rfl
@[simp] theorem State.writePrgRam_cart (s : State) (a : Word) (v : Byte) : (s.writePrgRam a v).cart = s.cart := rfl
@[simp] theorem State.writePrgRam_ppu (s : State) (a : Word) (v : Byte) : (s.writePrgRam a v).ppu = s.ppu := rfl
@[simp] theorem State.writePrgRam_out (s : State) (a : Word) (v : Byte) : (s.writePrgRam a v).out = s.out := rfl
@[simp] theorem State.writePrgRam_irqInputs (s : State) (a : Word) (v : Byte) :
    (s.writePrgRam a v).irqInputs = s.irqInputs := rfl
@[simp] theorem State.writePrgRam_draws (s : State) (a : Word) (v : Byte) : (s.writePrgRam a v).draws = s.draws := rfl
@[simp] theorem State.writePrgRam_params (s : State) (a : Word) (v : Byte) :
    (s.writePrgRam a v).params = s.params := rfl

/-! ### recordOracle -/

@[simp] theorem State.recordOracle_a (s : State) (a : Word) (v : Byte) : (s.recordOracle a v).a = s.a := rfl
@[simp] theorem State.recordOracle_x (s : State) (a : Word) (v : Byte) : (s.recordOracle a v).x = s.x := rfl
@[simp] theorem State.recordOracle_y (s : State) (a : Word) (v : Byte) : (s.recordOracle a v).y = s.y := rfl
@[simp] theorem State.recordOracle_sp (s : State) (a : Word) (v : Byte) : (s.recordOracle a v).sp = s.sp := rfl
@[simp] theorem State.recordOracle_pc (s : State) (a : Word) (v : Byte) : (s.recordOracle a v).pc = s.pc := rfl
@[simp] theorem State.recordOracle_p (s : State) (a : Word) (v : Byte) : (s.recordOracle a v).p = s.p := rfl
@[simp] theorem State.recordOracle_cycles (s : State) (a : Word) (v : Byte) :
    (s.recordOracle a v).cycles = s.cycles := rfl
@[simp] theorem State.recordOracle_stall (s : State) (a : Word) (v : Byte) : (s.recordOracle a v).stall = s.stall := rfl
@[simp] theorem State.recordOracle_nmiPending (s : State) (a : Word) (v : Byte) :
    (s.recordOracle a v).nmiPending = s.nmiPending := rfl
@[simp] theorem State.recordOracle_ram (s : State) (a : Word) (v : Byte) : (s.recordOracle a v).ram = s.ram := rfl
@[simp] theorem State.recordOracle_prgRam (s : State) (a : Word) (v : Byte) :
    (s.recordOracle a v).prgRam = s.prgRam := rfl
@[simp] theorem State.recordOracle_bankSel (s : State) (a : Word) (v : Byte) :
    (s.recordOracle a v).bankSel = s.bankSel := rfl
@[simp] theorem State.recordOracle_cart (s : State) (a : Word) (v : Byte) : (s.recordOracle a v).cart = s.cart := rfl
@[simp] theorem State.recordOracle_ppu (s : State) (a : Word) (v : Byte) : (s.recordOracle a v).ppu = s.ppu := rfl
@[simp] theorem State.recordOracle_out (s : State) (a : Word) (v : Byte) :
    (s.recordOracle a v).out = { s.out with oracleReads := s.out.oracleReads ++ [(a, v)] } := rfl
@[simp] theorem State.recordOracle_irqInputs (s : State) (a : Word) (v : Byte) :
    (s.recordOracle a v).irqInputs = s.irqInputs := rfl
@[simp] theorem State.recordOracle_draws (s : State) (a : Word) (v : Byte) :
    (s.recordOracle a v).draws = s.draws + 1 := rfl
@[simp] theorem State.recordOracle_params (s : State) (a : Word) (v : Byte) :
    (s.recordOracle a v).params = s.params := rfl

/-! ### recordApuWrite -/

@[simp] theorem State.recordApuWrite_a (s : State) (a : Word) (v : Byte) : (s.recordApuWrite a v).a = s.a := rfl
@[simp] theorem State.recordApuWrite_x (s : State) (a : Word) (v : Byte) : (s.recordApuWrite a v).x = s.x := rfl
@[simp] theorem State.recordApuWrite_y (s : State) (a : Word) (v : Byte) : (s.recordApuWrite a v).y = s.y := rfl
@[simp] theorem State.recordApuWrite_sp (s : State) (a : Word) (v : Byte) : (s.recordApuWrite a v).sp = s.sp := rfl
@[simp] theorem State.recordApuWrite_pc (s : State) (a : Word) (v : Byte) : (s.recordApuWrite a v).pc = s.pc := rfl
@[simp] theorem State.recordApuWrite_p (s : State) (a : Word) (v : Byte) : (s.recordApuWrite a v).p = s.p := rfl
@[simp] theorem State.recordApuWrite_cycles (s : State) (a : Word) (v : Byte) :
    (s.recordApuWrite a v).cycles = s.cycles := rfl
@[simp] theorem State.recordApuWrite_stall (s : State) (a : Word) (v : Byte) :
    (s.recordApuWrite a v).stall = s.stall := rfl
@[simp] theorem State.recordApuWrite_nmiPending (s : State) (a : Word) (v : Byte) :
    (s.recordApuWrite a v).nmiPending = s.nmiPending := rfl
@[simp] theorem State.recordApuWrite_ram (s : State) (a : Word) (v : Byte) : (s.recordApuWrite a v).ram = s.ram := rfl
@[simp] theorem State.recordApuWrite_prgRam (s : State) (a : Word) (v : Byte) :
    (s.recordApuWrite a v).prgRam = s.prgRam := rfl
@[simp] theorem State.recordApuWrite_bankSel (s : State) (a : Word) (v : Byte) :
    (s.recordApuWrite a v).bankSel = s.bankSel := rfl
@[simp] theorem State.recordApuWrite_cart (s : State) (a : Word) (v : Byte) :
    (s.recordApuWrite a v).cart = s.cart := rfl
@[simp] theorem State.recordApuWrite_ppu (s : State) (a : Word) (v : Byte) : (s.recordApuWrite a v).ppu = s.ppu := rfl
@[simp] theorem State.recordApuWrite_out (s : State) (a : Word) (v : Byte) :
    (s.recordApuWrite a v).out = { s.out with apuWrites := s.out.apuWrites ++ [(a, v)] } := rfl
@[simp] theorem State.recordApuWrite_irqInputs (s : State) (a : Word) (v : Byte) :
    (s.recordApuWrite a v).irqInputs = s.irqInputs := rfl
@[simp] theorem State.recordApuWrite_draws (s : State) (a : Word) (v : Byte) :
    (s.recordApuWrite a v).draws = s.draws := rfl
@[simp] theorem State.recordApuWrite_params (s : State) (a : Word) (v : Byte) :
    (s.recordApuWrite a v).params = s.params := rfl

/-! ### recordControllerWrite -/

@[simp] theorem State.recordControllerWrite_a (s : State) (a : Word) (v : Byte) :
    (s.recordControllerWrite a v).a = s.a := rfl
@[simp] theorem State.recordControllerWrite_x (s : State) (a : Word) (v : Byte) :
    (s.recordControllerWrite a v).x = s.x := rfl
@[simp] theorem State.recordControllerWrite_y (s : State) (a : Word) (v : Byte) :
    (s.recordControllerWrite a v).y = s.y := rfl
@[simp] theorem State.recordControllerWrite_sp (s : State) (a : Word) (v : Byte) :
    (s.recordControllerWrite a v).sp = s.sp := rfl
@[simp] theorem State.recordControllerWrite_pc (s : State) (a : Word) (v : Byte) :
    (s.recordControllerWrite a v).pc = s.pc := rfl
@[simp] theorem State.recordControllerWrite_p (s : State) (a : Word) (v : Byte) :
    (s.recordControllerWrite a v).p = s.p := rfl
@[simp] theorem State.recordControllerWrite_cycles (s : State) (a : Word) (v : Byte) :
    (s.recordControllerWrite a v).cycles = s.cycles := rfl
@[simp] theorem State.recordControllerWrite_stall (s : State) (a : Word) (v : Byte) :
    (s.recordControllerWrite a v).stall = s.stall := rfl
@[simp] theorem State.recordControllerWrite_nmiPending (s : State) (a : Word) (v : Byte) :
    (s.recordControllerWrite a v).nmiPending = s.nmiPending := rfl
@[simp] theorem State.recordControllerWrite_ram (s : State) (a : Word) (v : Byte) :
    (s.recordControllerWrite a v).ram = s.ram := rfl
@[simp] theorem State.recordControllerWrite_prgRam (s : State) (a : Word) (v : Byte) :
    (s.recordControllerWrite a v).prgRam = s.prgRam := rfl
@[simp] theorem State.recordControllerWrite_bankSel (s : State) (a : Word) (v : Byte) :
    (s.recordControllerWrite a v).bankSel = s.bankSel := rfl
@[simp] theorem State.recordControllerWrite_cart (s : State) (a : Word) (v : Byte) :
    (s.recordControllerWrite a v).cart = s.cart := rfl
@[simp] theorem State.recordControllerWrite_ppu (s : State) (a : Word) (v : Byte) :
    (s.recordControllerWrite a v).ppu = s.ppu := rfl
@[simp] theorem State.recordControllerWrite_out (s : State) (a : Word) (v : Byte) :
    (s.recordControllerWrite a v).out = { s.out with controllerWrites := s.out.controllerWrites ++ [(a, v)] } := rfl
@[simp] theorem State.recordControllerWrite_irqInputs (s : State) (a : Word) (v : Byte) :
    (s.recordControllerWrite a v).irqInputs = s.irqInputs := rfl
@[simp] theorem State.recordControllerWrite_draws (s : State) (a : Word) (v : Byte) :
    (s.recordControllerWrite a v).draws = s.draws := rfl
@[simp] theorem State.recordControllerWrite_params (s : State) (a : Word) (v : Byte) :
    (s.recordControllerWrite a v).params = s.params := rfl

/-! ### push -/

@[simp] theorem State.push_a (s : State) (v : Byte) : (s.push v).a = s.a := rfl
@[simp] theorem State.push_x (s : State) (v : Byte) : (s.push v).x = s.x := rfl
@[simp] theorem State.push_y (s : State) (v : Byte) : (s.push v).y = s.y := rfl
@[simp] theorem State.push_sp (s : State) (v : Byte) : (s.push v).sp = s.sp - 1 := rfl
@[simp] theorem State.push_pc (s : State) (v : Byte) : (s.push v).pc = s.pc := rfl
@[simp] theorem State.push_p (s : State) (v : Byte) : (s.push v).p = s.p := rfl
@[simp] theorem State.push_cycles (s : State) (v : Byte) : (s.push v).cycles = s.cycles := rfl
@[simp] theorem State.push_stall (s : State) (v : Byte) : (s.push v).stall = s.stall := rfl
@[simp] theorem State.push_nmiPending (s : State) (v : Byte) : (s.push v).nmiPending = s.nmiPending := rfl
@[simp] theorem State.push_ram (s : State) (v : Byte) :
    (s.push v).ram = s.ram.write (ramIndex (stackAddr s.sp)) v := rfl
@[simp] theorem State.push_prgRam (s : State) (v : Byte) : (s.push v).prgRam = s.prgRam := rfl
@[simp] theorem State.push_bankSel (s : State) (v : Byte) : (s.push v).bankSel = s.bankSel := rfl
@[simp] theorem State.push_cart (s : State) (v : Byte) : (s.push v).cart = s.cart := rfl
@[simp] theorem State.push_ppu (s : State) (v : Byte) : (s.push v).ppu = s.ppu := rfl
@[simp] theorem State.push_out (s : State) (v : Byte) : (s.push v).out = s.out := rfl
@[simp] theorem State.push_irqInputs (s : State) (v : Byte) : (s.push v).irqInputs = s.irqInputs := rfl
@[simp] theorem State.push_draws (s : State) (v : Byte) : (s.push v).draws = s.draws := rfl
@[simp] theorem State.push_params (s : State) (v : Byte) : (s.push v).params = s.params := rfl

/-! ### pop -/

@[simp] theorem State.pop_a (s : State) : (s.pop).a = s.a := rfl
@[simp] theorem State.pop_x (s : State) : (s.pop).x = s.x := rfl
@[simp] theorem State.pop_y (s : State) : (s.pop).y = s.y := rfl
@[simp] theorem State.pop_sp (s : State) : (s.pop).sp = s.sp + 1 := rfl
@[simp] theorem State.pop_pc (s : State) : (s.pop).pc = s.pc := rfl
@[simp] theorem State.pop_p (s : State) : (s.pop).p = s.p := rfl
@[simp] theorem State.pop_cycles (s : State) : (s.pop).cycles = s.cycles := rfl
@[simp] theorem State.pop_stall (s : State) : (s.pop).stall = s.stall := rfl
@[simp] theorem State.pop_nmiPending (s : State) : (s.pop).nmiPending = s.nmiPending := rfl
@[simp] theorem State.pop_ram (s : State) : (s.pop).ram = s.ram := rfl
@[simp] theorem State.pop_prgRam (s : State) : (s.pop).prgRam = s.prgRam := rfl
@[simp] theorem State.pop_bankSel (s : State) : (s.pop).bankSel = s.bankSel := rfl
@[simp] theorem State.pop_cart (s : State) : (s.pop).cart = s.cart := rfl
@[simp] theorem State.pop_ppu (s : State) : (s.pop).ppu = s.ppu := rfl
@[simp] theorem State.pop_out (s : State) : (s.pop).out = s.out := rfl
@[simp] theorem State.pop_irqInputs (s : State) : (s.pop).irqInputs = s.irqInputs := rfl
@[simp] theorem State.pop_draws (s : State) : (s.pop).draws = s.draws := rfl
@[simp] theorem State.pop_params (s : State) : (s.pop).params = s.params := rfl

/-! ### dropInput -/

@[simp] theorem State.dropInput_a (s : State) : (s.dropInput).a = s.a := rfl
@[simp] theorem State.dropInput_x (s : State) : (s.dropInput).x = s.x := rfl
@[simp] theorem State.dropInput_y (s : State) : (s.dropInput).y = s.y := rfl
@[simp] theorem State.dropInput_sp (s : State) : (s.dropInput).sp = s.sp := rfl
@[simp] theorem State.dropInput_pc (s : State) : (s.dropInput).pc = s.pc := rfl
@[simp] theorem State.dropInput_p (s : State) : (s.dropInput).p = s.p := rfl
@[simp] theorem State.dropInput_cycles (s : State) : (s.dropInput).cycles = s.cycles := rfl
@[simp] theorem State.dropInput_stall (s : State) : (s.dropInput).stall = s.stall := rfl
@[simp] theorem State.dropInput_nmiPending (s : State) : (s.dropInput).nmiPending = s.nmiPending := rfl
@[simp] theorem State.dropInput_ram (s : State) : (s.dropInput).ram = s.ram := rfl
@[simp] theorem State.dropInput_prgRam (s : State) : (s.dropInput).prgRam = s.prgRam := rfl
@[simp] theorem State.dropInput_bankSel (s : State) : (s.dropInput).bankSel = s.bankSel := rfl
@[simp] theorem State.dropInput_cart (s : State) : (s.dropInput).cart = s.cart := rfl
@[simp] theorem State.dropInput_ppu (s : State) : (s.dropInput).ppu = s.ppu := rfl
@[simp] theorem State.dropInput_out (s : State) : (s.dropInput).out = s.out := rfl
@[simp] theorem State.dropInput_irqInputs (s : State) : (s.dropInput).irqInputs = s.irqInputs.tail := rfl
@[simp] theorem State.dropInput_draws (s : State) : (s.dropInput).draws = s.draws := rfl
@[simp] theorem State.dropInput_params (s : State) : (s.dropInput).params = s.params := rfl

/-! ### stallCycle -/

@[simp] theorem State.stallCycle_a (s : State) : (s.stallCycle).a = s.a := rfl
@[simp] theorem State.stallCycle_x (s : State) : (s.stallCycle).x = s.x := rfl
@[simp] theorem State.stallCycle_y (s : State) : (s.stallCycle).y = s.y := rfl
@[simp] theorem State.stallCycle_sp (s : State) : (s.stallCycle).sp = s.sp := rfl
@[simp] theorem State.stallCycle_pc (s : State) : (s.stallCycle).pc = s.pc := rfl
@[simp] theorem State.stallCycle_p (s : State) : (s.stallCycle).p = s.p := rfl
@[simp] theorem State.stallCycle_cycles (s : State) : (s.stallCycle).cycles = s.cycles + 1 := rfl
@[simp] theorem State.stallCycle_stall (s : State) : (s.stallCycle).stall = s.stall - 1 := rfl
@[simp] theorem State.stallCycle_nmiPending (s : State) : (s.stallCycle).nmiPending = s.nmiPending := rfl
@[simp] theorem State.stallCycle_ram (s : State) : (s.stallCycle).ram = s.ram := rfl
@[simp] theorem State.stallCycle_prgRam (s : State) : (s.stallCycle).prgRam = s.prgRam := rfl
@[simp] theorem State.stallCycle_bankSel (s : State) : (s.stallCycle).bankSel = s.bankSel := rfl
@[simp] theorem State.stallCycle_cart (s : State) : (s.stallCycle).cart = s.cart := rfl
@[simp] theorem State.stallCycle_ppu (s : State) : (s.stallCycle).ppu = s.ppu := rfl
@[simp] theorem State.stallCycle_out (s : State) : (s.stallCycle).out = s.out := rfl
@[simp] theorem State.stallCycle_irqInputs (s : State) : (s.stallCycle).irqInputs = s.irqInputs := rfl
@[simp] theorem State.stallCycle_draws (s : State) : (s.stallCycle).draws = s.draws := rfl
@[simp] theorem State.stallCycle_params (s : State) : (s.stallCycle).params = s.params := rfl

/-! ### clearNmi -/

@[simp] theorem State.clearNmi_a (s : State) : (s.clearNmi).a = s.a := rfl
@[simp] theorem State.clearNmi_x (s : State) : (s.clearNmi).x = s.x := rfl
@[simp] theorem State.clearNmi_y (s : State) : (s.clearNmi).y = s.y := rfl
@[simp] theorem State.clearNmi_sp (s : State) : (s.clearNmi).sp = s.sp := rfl
@[simp] theorem State.clearNmi_pc (s : State) : (s.clearNmi).pc = s.pc := rfl
@[simp] theorem State.clearNmi_p (s : State) : (s.clearNmi).p = s.p := rfl
@[simp] theorem State.clearNmi_cycles (s : State) : (s.clearNmi).cycles = s.cycles := rfl
@[simp] theorem State.clearNmi_stall (s : State) : (s.clearNmi).stall = s.stall := rfl
@[simp] theorem State.clearNmi_nmiPending (s : State) : (s.clearNmi).nmiPending = false := rfl
@[simp] theorem State.clearNmi_ram (s : State) : (s.clearNmi).ram = s.ram := rfl
@[simp] theorem State.clearNmi_prgRam (s : State) : (s.clearNmi).prgRam = s.prgRam := rfl
@[simp] theorem State.clearNmi_bankSel (s : State) : (s.clearNmi).bankSel = s.bankSel := rfl
@[simp] theorem State.clearNmi_cart (s : State) : (s.clearNmi).cart = s.cart := rfl
@[simp] theorem State.clearNmi_ppu (s : State) : (s.clearNmi).ppu = s.ppu := rfl
@[simp] theorem State.clearNmi_out (s : State) : (s.clearNmi).out = s.out := rfl
@[simp] theorem State.clearNmi_irqInputs (s : State) : (s.clearNmi).irqInputs = s.irqInputs := rfl
@[simp] theorem State.clearNmi_draws (s : State) : (s.clearNmi).draws = s.draws := rfl
@[simp] theorem State.clearNmi_params (s : State) : (s.clearNmi).params = s.params := rfl

end Sys2Proof.Machine
end

