-- ==== Sys2Proof/Laws/Bus.lean ====
section
/-! SUPPORT. The laws of the CPU bus: the region an address falls in, what a read and a write can change, when they fault, and
that the direct accesses to the zero page and the stack are CPU-bus accesses. -/

namespace Sys2Proof.Machine

/-! ## Sequencing -/

@[simp] theorem Res.andThen_ok {α β : Type} (v : α) (s : State) (f : α → State → Res β) :
    (Res.ok v s).andThen f = f v s := rfl

@[simp] theorem Res.andThen_stop {α β : Type} (e : Fault) (f : α → State → Res β) :
    (Res.stop e : Res α).andThen f = .stop e := rfl

@[simp] theorem Res.toOutcome_ok (s : State) : (Res.ok () s).toOutcome = .next s := rfl

@[simp] theorem Res.toOutcome_stop (e : Fault) : (Res.stop e).toOutcome = .fault e := rfl

@[simp] theorem Fault.kept_keep (s : State) (f : Fault) : (f.keep s).kept = s := by cases f <;> rfl

theorem Res.andThen_eq_stop {α β : Type} {r : Res α} {f : α → State → Res β} {e : Fault} (h : r.andThen f = .stop e) :
    r = .stop e ∨ ∃ a u, r = .ok a u ∧ f a u = .stop e := by
  cases r with
  | ok a u => exact .inr ⟨a, u, rfl, h⟩
  | stop g => exact .inl (by injection h with h; rw [h])

theorem Res.andThen_eq_ok {α β : Type} {r : Res α} {f : α → State → Res β} {b : β} {t : State}
    (h : r.andThen f = .ok b t) : ∃ a u, r = .ok a u ∧ f a u = .ok b t := by
  cases r with
  | ok a u => exact ⟨a, u, rfl, h⟩
  | stop e => simp at h

theorem Res.toOutcome_eq_next {r : Res Unit} {t : State} (h : r.toOutcome = .next t) : r = .ok () t := by
  cases r with
  | ok a u => cases a; simp at h; rw [h]
  | stop e => simp at h

theorem Res.toOutcome_eq_fault {r : Res Unit} {f : Fault} (h : r.toOutcome = .fault f) : r = .stop f := by
  cases r with
  | ok a u => cases a; simp at h
  | stop e => simp at h; rw [h]

/-! ## Bytes and words -/

theorem wordOf_toNat (hi lo : Byte) : (wordOf hi lo).toNat = hi.toNat * 256 + lo.toNat := by
  have h : (wordOf hi lo).toNat = hi.toNat <<< 8 ||| lo.toNat := BitVec.toNat_append hi lo
  rw [h, Nat.shiftLeft_eq, Nat.mul_comm hi.toNat, ← Nat.two_pow_add_eq_or_of_lt lo.isLt hi.toNat, Nat.mul_comm]

theorem highByte_toNat (w : Word) : (highByte w).toNat = w.toNat / 256 := by
  have := w.isLt
  simp [highByte, Nat.shiftRight_eq_div_pow]
  omega

theorem lowByte_toNat (w : Word) : (lowByte w).toNat = w.toNat % 256 := by
  simp [lowByte]

@[simp] theorem lowByte_wordOf (hi lo : Byte) : lowByte (wordOf hi lo) = lo := by
  apply BitVec.eq_of_toNat_eq
  have := lo.isLt
  rw [lowByte_toNat, wordOf_toNat]
  omega

@[simp] theorem highByte_wordOf (hi lo : Byte) : highByte (wordOf hi lo) = hi := by
  apply BitVec.eq_of_toNat_eq
  have := lo.isLt
  rw [highByte_toNat, wordOf_toNat]
  omega

@[simp] theorem wordOf_high_low (w : Word) : wordOf (highByte w) (lowByte w) = w := by
  apply BitVec.eq_of_toNat_eq
  rw [wordOf_toNat, highByte_toNat, lowByte_toNat]
  omega

/-- The stack page lies in RAM (R84), at index 256 + SP. -/
theorem ramIndex_stackAddr (sp : Byte) : ramIndex (stackAddr sp) = 256 + sp.toNat := by
  have := sp.isLt
  simp [ramIndex, stackAddr, wordOf_toNat]
  omega

theorem stackAddr_le (sp : Byte) : (stackAddr sp).toNat ≤ 0x1FFF := by
  have := sp.isLt
  simp [stackAddr, wordOf_toNat]
  omega

/-- The zero page lies in RAM, at its own index. -/
theorem ramIndex_zeroPageAddr (zp : Byte) : ramIndex (zeroPageAddr zp) = zp.toNat := by
  have := zp.isLt
  simp [ramIndex, zeroPageAddr, wordOf_toNat]
  omega

theorem zeroPageAddr_le (zp : Byte) : (zeroPageAddr zp).toNat ≤ 0x1FFF := by
  have := zp.isLt
  simp [zeroPageAddr, wordOf_toNat]
  omega

theorem ramIndex_lt (a : Word) : ramIndex a < 2048 := Nat.mod_lt _ (by decide)

theorem prgRamIndex_lt {a : Word} (h : a.toNat ≤ 0x7FFF) : prgRamIndex a < 8192 := by
  unfold prgRamIndex
  omega

/-! ## Which region a read reaches (R87) -/

theorem busRead_ram {a : Word} (h : a.toNat ≤ 0x1FFF) (s : State) : busRead a s = .ok (s.ram.read (ramIndex a)) s := by
  rw [busRead, if_pos h]

theorem busRead_ppuReg {a : Word} (lo : 0x2000 ≤ a.toNat) (hi : a.toNat ≤ 0x3FFF) (s : State) :
    busRead a s = .ok (readPpuReg (a.toNat % 8) s).1 (readPpuReg (a.toNat % 8) s).2 := by
  rw [busRead, if_neg (by omega), if_pos hi]

theorem busRead_dma (s : State) : busRead 0x4014 s = .ok (drawByte s).1 (drawByte s).2 := by
  rw [busRead, if_neg (by decide), if_neg (by decide), if_pos (by decide)]

theorem busRead_apu {a : Word} (lo : 0x4000 ≤ a.toNat) (hi : a.toNat ≤ 0x4015) (ne : a.toNat ≠ 0x4014) (s : State) :
    busRead a s = apuRead a s := by
  rw [busRead, if_neg (by omega), if_neg (by omega), if_neg ne, if_neg (by omega), if_pos hi]

theorem busRead_input {a : Word} (h : a.toNat = 0x4016 ∨ a.toNat = 0x4017) (s : State) : busRead a s = inputRead a s := by
  rw [busRead, if_neg (by omega), if_neg (by omega), if_neg (by omega), if_pos h]

theorem busRead_unimplemented {a : Word} (h : unimplemented a = true) (s : State) :
    busRead a s = .stop (.notImplemented a s) := by
  simp only [unimplemented, Bool.and_eq_true, decide_eq_true_eq] at h
  rw [busRead, if_neg (by omega), if_neg (by omega), if_neg (by omega), if_neg (by omega), if_neg (by omega),
    if_pos h.2]

theorem busRead_prgRam {a : Word} (lo : 0x6000 ≤ a.toNat) (hi : a.toNat ≤ 0x7FFF) (s : State) :
    busRead a s = .ok (s.prgRam.read (prgRamIndex a)) s := by
  rw [busRead, if_neg (by omega), if_neg (by omega), if_neg (by omega), if_neg (by omega), if_neg (by omega),
    if_neg (by omega), if_pos hi]

theorem busRead_prg {a : Word} (lo : 0x8000 ≤ a.toNat) (s : State) : busRead a s = prgRead a s := by
  rw [busRead, if_neg (by omega), if_neg (by omega), if_neg (by omega), if_neg (by omega), if_neg (by omega),
    if_neg (by omega), if_neg (by omega)]

/-- Where `peek` answers, a CPU-bus read gives that byte and changes nothing (R97). -/
theorem busRead_of_peek {s : State} {a : Word} {v : Byte} (h : peek s a = some v) : busRead a s = .ok v s := by
  unfold peek at h
  split_ifs at h with h1 h2 h3 h4
  · rw [busRead_ram h1]; simpa using h
  · rw [busRead_prgRam (by omega) h3]; simpa using h
  · rw [busRead_prg (by omega), prgRead, if_pos h4]; simpa using h

/-! ## Which region a write reaches (R88) -/

theorem busWrite_ram {a : Word} (h : a.toNat ≤ 0x1FFF) (v : Byte) (s : State) :
    busWrite a v s = .ok () (s.writeRam a v) := by
  rw [busWrite, if_pos h]

theorem busWrite_ppuReg {a : Word} (lo : 0x2000 ≤ a.toNat) (hi : a.toNat ≤ 0x3FFF) (v : Byte) (s : State) :
    busWrite a v s = .ok () (writePpuReg (a.toNat % 8) v s) := by
  rw [busWrite, if_neg (by omega), if_pos hi]

theorem busWrite_dma (v : Byte) (s : State) : busWrite 0x4014 v s = oamDma v s := by
  rw [busWrite, if_neg (by decide), if_neg (by decide), if_pos (by decide)]

theorem busWrite_controller (v : Byte) (s : State) :
    busWrite 0x4016 v s = .ok () (s.recordControllerWrite 0x4016 v) := by
  rw [busWrite, if_neg (by decide), if_neg (by decide), if_neg (by decide), if_pos (by decide)]

theorem busWrite_apu {a : Word} (lo : 0x4000 ≤ a.toNat) (hi : a.toNat ≤ 0x4017) (n1 : a.toNat ≠ 0x4014)
    (n2 : a.toNat ≠ 0x4016) (v : Byte) (s : State) : busWrite a v s = .ok () (s.recordApuWrite a v) := by
  rw [busWrite, if_neg (by omega), if_neg (by omega), if_neg n1, if_neg n2, if_pos hi]

theorem busWrite_unimplemented {a : Word} (h : unimplemented a = true) (v : Byte) (s : State) :
    busWrite a v s = .stop (.notImplemented a s) := by
  simp only [unimplemented, Bool.and_eq_true, decide_eq_true_eq] at h
  rw [busWrite, if_neg (by omega), if_neg (by omega), if_neg (by omega), if_neg (by omega), if_neg (by omega),
    if_pos h.2]

theorem busWrite_prgRam {a : Word} (lo : 0x6000 ≤ a.toNat) (hi : a.toNat ≤ 0x7FFF) (v : Byte) (s : State) :
    busWrite a v s = .ok () (s.writePrgRam a v) := by
  rw [busWrite, if_neg (by omega), if_neg (by omega), if_neg (by omega), if_neg (by omega), if_neg (by omega),
    if_neg (by omega), if_pos hi]

theorem busWrite_prg {a : Word} (lo : 0x8000 ≤ a.toNat) (v : Byte) (s : State) :
    busWrite a v s = .ok () (prgWrite v s) := by
  rw [busWrite, if_neg (by omega), if_neg (by omega), if_neg (by omega), if_neg (by omega), if_neg (by omega),
    if_neg (by omega), if_neg (by omega)]

/-! ## The direct accesses are CPU-bus accesses -/

/-- `Push` is a CPU-bus write at the stack address (R17). -/
theorem push_eq_busWrite (s : State) (v : Byte) :
    (busWrite (stackAddr s.sp) v s).andThen (fun _ t => .ok () (t.setSp (s.sp - 1))) = .ok () (s.push v) := by
  rw [busWrite_ram (stackAddr_le _)]
  rfl

/-- `Pull` is a CPU-bus read at the new stack address (R17). -/
theorem pulled_eq_busRead (s : State) : busRead (stackAddr s.pop.sp) s.pop = .ok s.pulled s.pop := by
  rw [busRead_ram (stackAddr_le _)]
  rfl

/-- The pointer of R153 and R154 is two CPU-bus reads in the zero page. -/
theorem zeroPagePointer_eq_busRead (zp : Byte) (s : State) :
    (busRead (zeroPageAddr zp) s).andThen (fun lo t =>
      (busRead (zeroPageAddr (zp + 1)) t).andThen fun hi u => .ok (wordOf hi lo) u) =
    .ok (zeroPagePointer zp s) s := by
  rw [busRead_ram (zeroPageAddr_le _), Res.andThen_ok, busRead_ram (zeroPageAddr_le _)]
  rfl

/-! ## Offsets stay inside their arrays (R103) -/

/-- The PRG-ROM offset of an admitted cartridge is inside the array. -/
theorem prgOffset_lt {s : State} (cart : s.cart.Admitted) (bank : s.bankSel < s.cart.prgBanks) {a : Word}
    (lo : 0x8000 ≤ a.toNat) : prgOffset s a < 16384 * s.cart.prgBanks := by
  have := a.isLt
  have n := cart.prgBanks
  unfold prgOffset
  split
  · exact Nat.mod_lt _ (by omega)
  · split_ifs
    · have : (s.bankSel + 1) * 16384 ≤ s.cart.prgBanks * 16384 := Nat.mul_le_mul_right _ bank
      omega
    · omega

/-- On an admitted console every address above the device registers can be peeked. -/
theorem peek_prg {s : State} (cart : s.cart.Admitted) (bank : s.bankSel < s.cart.prgBanks) {a : Word}
    (lo : 0x8000 ≤ a.toNat) : peek s a = some (s.cart.prgRom.read (prgOffset s a)) := by
  rw [peek, if_neg (by omega), if_neg (by omega), if_neg (by omega), if_pos (prgOffset_lt cart bank lo)]

/-! ## What an access can change -/

theorem ppuBusRead_frame (a : BitVec 14) (s : State) :
    (ppuBusRead a s).2 = { s with draws := (ppuBusRead a s).2.draws } := by
  unfold ppuBusRead drawByte
  split_ifs <;> rfl

/-- A PPU register read changes the PPU and the count of draws, nothing else. -/
theorem readPpuReg_frame (n : Nat) (s : State) :
    (readPpuReg n s).2 = { s with ppu := (readPpuReg n s).2.ppu, draws := (readPpuReg n s).2.draws } := by
  unfold readPpuReg
  split_ifs
  · rfl
  · rfl
  · unfold readData ppuBusRead drawByte
    dsimp only
    split_ifs <;> rfl
  · rfl

/-- A CPU-bus read changes the PPU, the count of draws and the oracle stream, nothing else. -/
theorem busRead_frame {a : Word} {s t : State} {v : Byte} (h : busRead a s = .ok v t) :
    t = { s with ppu := t.ppu, draws := t.draws, out := { s.out with oracleReads := t.out.oracleReads } } := by
  unfold busRead prgRead apuRead inputRead at h
  split_ifs at h <;> injection h with hv ht <;> subst ht
  · rfl
  · rw [readPpuReg_frame]
  · rfl
  · rfl
  · rfl
  · rfl
  · rfl

/-- When a CPU-bus read stops, the fault keeps the state before it, and the address is unimplemented (R93) or its PRG-ROM
offset is outside the array (R103). -/
theorem busRead_stop {a : Word} {s : State} {f : Fault} (h : busRead a s = .stop f) :
    (f = .notImplemented a s ∧ unimplemented a = true) ∨
      (f = .cartridgeOutOfRange .prgRom (prgOffset s a) s ∧ 0x8000 ≤ a.toNat ∧
        16384 * s.cart.prgBanks ≤ prgOffset s a) := by
  unfold busRead prgRead apuRead inputRead at h
  split_ifs at h with h1 h2 h3 h4 h5 h6 h7 h8 <;> injection h with hf
  · refine .inl ⟨hf.symm, ?_⟩
    simp only [unimplemented, Bool.and_eq_true, decide_eq_true_eq]
    omega
  · exact .inr ⟨hf.symm, by omega, by omega⟩

/-- Outside the unimplemented region a CPU-bus read of an admitted console answers. -/
theorem busRead_ok {s : State} (cart : s.cart.Admitted) (bank : s.bankSel < s.cart.prgBanks) {a : Word}
    (h : unimplemented a = false) : ∃ v t, busRead a s = .ok v t := by
  cases e : busRead a s with
  | ok v t => exact ⟨v, t, rfl⟩
  | stop f =>
    obtain ⟨-, h'⟩ | ⟨-, lo, h'⟩ := busRead_stop e
    · rw [h] at h'; exact absurd h' (by decide)
    · exact absurd (prgOffset_lt cart bank lo) (by omega)

theorem ppuBusWrite_frame (a : BitVec 14) (v : Byte) (s : State) :
    ppuBusWrite a v s =
      { s with ppu := (ppuBusWrite a v s).ppu, cart := { s.cart with chr := (ppuBusWrite a v s).cart.chr } } := by
  unfold ppuBusWrite State.setPpu
  split_ifs <;> rfl

/-- A PPU register write changes the PPU and CHR, nothing else. -/
theorem writePpuReg_frame (n : Nat) (d : Byte) (s : State) :
    writePpuReg n d s =
      { s with ppu := (writePpuReg n d s).ppu, cart := { s.cart with chr := (writePpuReg n d s).cart.chr } } := by
  unfold writePpuReg
  dsimp only
  split_ifs
  · rfl
  · rfl
  · rfl
  · rfl
  · rfl
  · rfl
  · rfl
  · unfold writeData ppuBusWrite State.setPpu State.setLatch
    dsimp only
    split_ifs <;> rfl

/-- A step of the OAM DMA copy changes the PPU, the count of draws and the oracle stream, nothing else. -/
theorem dmaCopy_frame {base : Word} {n i : Nat} {s t : State} (h : dmaCopy base n i s = .ok () t) :
    t = { s with ppu := t.ppu, draws := t.draws, out := { s.out with oracleReads := t.out.oracleReads } } := by
  induction n generalizing i s with
  | zero => injection h with _ h; subst h; rfl
  | succ n ih =>
    obtain ⟨v, u, hu, hc⟩ := Res.andThen_eq_ok h
    have e1 := busRead_frame hu
    have e2 := ih hc
    rw [e2, e1]
    rfl

/-- A CPU-bus write changes RAM, PRG-RAM, the bank register, CHR, the PPU, the event streams, the stall and the count of
draws, nothing else. -/
theorem busWrite_frame {a : Word} {v : Byte} {s t : State} (h : busWrite a v s = .ok () t) :
    t = { s with
      ram := t.ram, prgRam := t.prgRam, bankSel := t.bankSel, cart := { s.cart with chr := t.cart.chr }, ppu := t.ppu
      out := { t.out with pixels := s.out.pixels }, stall := t.stall, draws := t.draws } := by
  unfold busWrite at h
  split_ifs at h
  · injection h with _ h; subst h; rfl
  · injection h with _ h; subst h; rw [writePpuReg_frame]
  · unfold oamDma at h
    obtain ⟨_, u, hu, h⟩ := Res.andThen_eq_ok h
    injection h with _ h
    subst h
    rw [dmaCopy_frame hu]
  · injection h with _ h; subst h; rfl
  · injection h with _ h; subst h; rfl
  · injection h with _ h; subst h; rfl
  · injection h with _ h
    subst h
    unfold prgWrite
    split <;> rfl

/-- A DMA copy from addresses outside the unimplemented region answers on an admitted console. -/
theorem dmaCopy_ok {base : Word} {n i : Nat} {s : State} (cart : s.cart.Admitted) (bank : s.bankSel < s.cart.prgBanks)
    (h : ∀ k, i ≤ k → k < i + n → unimplemented (base + BitVec.ofNat 16 k) = false) :
    ∃ t, dmaCopy base n i s = .ok () t := by
  induction n generalizing i s with
  | zero => exact ⟨s, rfl⟩
  | succ n ih =>
    obtain ⟨v, t, ht⟩ := busRead_ok (s := s) cart bank (h i (Nat.le_refl i) (by omega))
    have e := busRead_frame ht
    obtain ⟨u, hu⟩ := ih (i := i + 1) (s := t.setPpu (t.ppu.writeOamData v)) (by rw [e]; exact cart)
      (by rw [e]; exact bank) (fun k lo hi => h k (by omega) (by omega))
    exact ⟨u, by simp only [dmaCopy, ht, Res.andThen_ok, hu]⟩

/-- The source addresses of a DMA page outside 0x40-0x5F are outside the unimplemented region. -/
theorem dmaPage_implemented {d : Byte} (h : ¬ (0x40 ≤ d.toNat ∧ d.toNat ≤ 0x5F)) {k : Nat} (lt : k < 256) :
    unimplemented (wordOf d 0 + BitVec.ofNat 16 k) = false := by
  have e : (wordOf d 0 + BitVec.ofNat 16 k).toNat = d.toNat * 256 + k := by
    have := d.isLt
    rw [BitVec.toNat_add, wordOf_toNat, BitVec.toNat_ofNat]
    simp only [BitVec.toNat_ofNat, Nat.zero_mod, BitVec.ofNat_eq_ofNat]
    omega
  rw [unimplemented, e]
  simp only [Bool.and_eq_false_iff, decide_eq_false_iff_not]
  omega

/-- A storable write of an admitted console answers. -/
theorem busWrite_ok {s : State} (cart : s.cart.Admitted) (bank : s.bankSel < s.cart.prgBanks) {a : Word} {v : Byte}
    (h : storable a v = true) : ∃ t, busWrite a v s = .ok () t := by
  simp only [storable, Bool.and_eq_true, Bool.not_eq_true', Bool.and_eq_false_iff, decide_eq_false_iff_not,
    beq_eq_false_iff_ne] at h
  obtain ⟨hu, hd⟩ := h
  by_cases e : a = 0x4014
  · subst e
    have page : ¬ (0x40 ≤ v.toNat ∧ v.toNat ≤ 0x5F) := by
      rcases hd with (hd | hd) | hd
      · exact absurd rfl hd
      · omega
      · omega
    rw [busWrite_dma]
    obtain ⟨t, ht⟩ := dmaCopy_ok (base := wordOf v 0) (n := 256) (i := 0) (s := s) cart bank
      (fun k _ hi => dmaPage_implemented page (by omega))
    refine ⟨{ t with stall := t.stall + dmaStall t }, ?_⟩
    simp only [oamDma, ht, Res.andThen_ok]
  · have e' : a.toNat ≠ 0x4014 := fun h => e (BitVec.eq_of_toNat_eq (by rw [h]; rfl))
    simp only [unimplemented, Bool.and_eq_false_iff, decide_eq_false_iff_not] at hu
    unfold busWrite
    split_ifs
    · exact ⟨_, rfl⟩
    · exact ⟨_, rfl⟩
    · exact ⟨_, rfl⟩
    · exact ⟨_, rfl⟩
    · omega
    · exact ⟨_, rfl⟩
    · exact ⟨_, rfl⟩

/-- A memory-array write seen through `peek`: the bytes of RAM. -/
theorem peek_writeRam {s : State} (ram : s.ram.wf = true) {a : Word} (ha : a.toNat ≤ 0x1FFF) (v : Byte) (b : Word) :
    peek (s.writeRam a v) b = if sameByte a b then some v else peek s b := by
  have off : prgOffset (s.writeRam a v) b = prgOffset s b := rfl
  unfold peek sameByte
  rw [off]
  by_cases hb : b.toNat ≤ 0x1FFF
  · simp only [hb, if_true, State.writeRam_ram, ha, decide_true, Bool.true_and, Cells.read_write ram]
    by_cases e : ramIndex b = ramIndex a
    · simp [e]
    · have : a ≠ b := fun h => e (by rw [h])
      simp [e, this, Ne.symm e]
  · have : a ≠ b := fun h => hb (h ▸ ha)
    simp only [hb, this, if_false, decide_false, Bool.and_false, Bool.false_and, Bool.or_false, beq_eq_false_iff_ne.2,
      ne_eq, not_false_eq_true, Bool.false_eq_true]
    rfl

/-- A memory-array write seen through `peek`: the bytes of PRG-RAM. -/
theorem peek_writePrgRam {s : State} (prgRam : s.prgRam.wf = true) {a : Word} (lo : 0x6000 ≤ a.toNat)
    (hi : a.toNat ≤ 0x7FFF) (v : Byte) (b : Word) :
    peek (s.writePrgRam a v) b = if sameByte a b then some v else peek s b := by
  have off : prgOffset (s.writePrgRam a v) b = prgOffset s b := rfl
  have na : ¬ a.toNat ≤ 0x1FFF := by omega
  unfold peek sameByte
  rw [off]
  simp only [na, decide_false, Bool.false_and, Bool.or_false, State.writePrgRam_ram, State.writePrgRam_prgRam,
    Cells.read_write prgRam, State.writePrgRam_cart]
  by_cases e : a = b
  · subst e
    simp [na, hi]
    omega
  · by_cases h1 : b.toNat ≤ 0x1FFF
    · simp [h1, e]
    · by_cases h2 : b.toNat ≤ 0x5FFF
      · simp [h1, h2, e]
      · by_cases h3 : b.toNat ≤ 0x7FFF
        · have : prgRamIndex b ≠ prgRamIndex a := fun h => e (BitVec.eq_of_toNat_eq (by
            unfold prgRamIndex at h; omega))
          simp only [h1, h2, h3, e, this, if_false, if_true, beq_eq_false_iff_ne.2, ne_eq, not_false_eq_true,
            Bool.false_eq_true]
        · simp only [h1, h2, h3, e, if_false, beq_eq_false_iff_ne.2, ne_eq, not_false_eq_true, Bool.false_eq_true]
          rfl

end Sys2Proof.Machine
end

