-- ==== Sys2Proof/Laws/Decode.lean ====
section
/-! SUPPORT. The laws of the decoder: the map has a row for every opcode byte, and what decoding answers by format. -/

namespace Sys2Proof

/-- A format that decodes. -/
def Shape.present : Shape → Bool
  | .none => false
  | _ => true

/-- The descriptor in row `i`, column `j` of the map is there and has a format. -/
theorem opcodeMap_present :
    ∀ i j : Fin 16, (((opcodeMap[i.val]?).bind fun row => row[j.val]?).map fun d => d.shape.present) = some true := by
  decide

/-- Every opcode byte has a row with a format (R157). -/
theorem opcodeShape_present (op : Byte) : (opcodeShape op).present = true := by
  have lt := op.isLt
  have h := opcodeMap_present ⟨op.toNat / 16, by omega⟩ ⟨op.toNat % 16, by omega⟩
  unfold opcodeShape descriptor?
  revert h
  dsimp only
  generalize ((opcodeMap[op.toNat / 16]?).bind fun row => row[op.toNat % 16]?) = d
  cases d with
  | none => intro h; simp at h
  | some d => intro h; simpa using h

theorem decode_f1 {op : Byte} {i : Instr} (h : opcodeShape op = .f1 i) (rest : List Byte) :
    decode (op :: rest) = .ok (i, rest) := by
  cases rest <;> simp [decode, h]

theorem decode_f2 {op : Byte} {f : Byte → Instr} (h : opcodeShape op = .f2 f) (b : Byte) (rest : List Byte) :
    decode (op :: b :: rest) = .ok (f b, rest) := by
  simp [decode, h]

theorem decode_f3 {op : Byte} {f : Word → Instr} (h : opcodeShape op = .f3 f) (lo hi : Byte) (rest : List Byte) :
    decode (op :: lo :: hi :: rest) = .ok (f (wordOf hi lo), rest) := by
  simp [decode, h]

/-- The decoder answers an instruction for any opcode byte with two bytes after it, of which it reads as many as the format
has. -/
theorem decodeBytes_some (op b1 b2 : Byte) : ∃ i, decodeBytes op b1 b2 = some i := by
  have h := opcodeShape_present op
  unfold decodeBytes
  cases hs : opcodeShape op with
  | f1 i => exact ⟨i, by rw [decode_f1 hs]⟩
  | f2 f => exact ⟨f b1, by rw [decode_f2 hs]⟩
  | f3 f => exact ⟨f (wordOf b2 b1), by rw [decode_f3 hs]⟩
  | none => rw [hs] at h; exact absurd h (by decide)

/-- The operand bytes the format does not ask for are not looked at. -/
theorem decodeBytes_of_decode {op b1 b2 : Byte} {bytes : List Byte} {i : Instr}
    (h : decode bytes = .ok (i, [])) (e : bytes = [op, b1, b2].take (1 + operandCount op)) :
    decodeBytes op b1 b2 = some i := by
  have hp := opcodeShape_present op
  cases hs : opcodeShape op with
  | f1 i' =>
    have n : operandCount op = 0 := by simp [operandCount, hs]
    rw [n] at e
    simp only [Nat.add_zero, List.take_succ_cons, List.take_zero] at e
    rw [e, decode_f1 hs] at h
    injection h with h
    rw [decodeBytes, decode_f1 hs]
    simp only [Prod.mk.injEq] at h
    simp [h.1]
  | f2 f =>
    have n : operandCount op = 1 := by simp [operandCount, hs]
    rw [n] at e
    simp only [List.take_succ_cons, List.take_zero] at e
    rw [e, decode_f2 hs] at h
    injection h with h
    rw [decodeBytes, decode_f2 hs]
    simp only [Prod.mk.injEq] at h
    simp [h.1]
  | f3 f =>
    have n : operandCount op = 2 := by simp [operandCount, hs]
    rw [n] at e
    simp only [List.take_succ_cons, List.take_zero] at e
    rw [e, decode_f3 hs] at h
    injection h with h
    rw [decodeBytes, decode_f3 hs]
    simp only [Prod.mk.injEq] at h
    simp [h.1]
  | none => rw [hs] at hp; exact absurd hp (by decide)

end Sys2Proof
end

