-- ==== Sys2Proof/Laws/Ppu.lean ====
section
/-! SUPPORT. The laws of the PPU engine: the addresses its fetches use, the bounds of its indices, the NMI edge detector, and
what a dot can change. -/

namespace Sys2Proof.Machine

/-! ## Indices stay inside their arrays -/

/-- `Mirror(a)` is a CIRAM index (R113). -/
theorem mirrorIndex_lt (m : Mirroring) (a : Nat) : mirrorIndex m a < 2048 := by
  cases m <;> simp only [mirrorIndex] <;> omega

theorem palIndex_lt (a : Nat) : palIndex a < 32 := by
  unfold palIndex
  dsimp only
  split_ifs <;> omega

/-- `PalIndex(a)` is never one of the four aliased entries (R114). -/
theorem palIndex_not_alias (a : Nat) : palIndex a ≠ 16 ∧ palIndex a ≠ 20 ∧ palIndex a ≠ 24 ∧ palIndex a ≠ 28 := by
  unfold palIndex
  dsimp only
  split_ifs <;> omega

/-! ## Rendering fetches stay below the palette (R110) -/

theorem and_two_pow_sub_one_toNat {w : Nat} (v m : BitVec w) (k : Nat) (hm : m.toNat = 2 ^ k - 1) :
    (v &&& m).toNat = v.toNat % 2 ^ k := by
  rw [BitVec.toNat_and, hm, Nat.and_two_pow_sub_one_eq_mod]

/-- A nametable fetch reads 0x2000-0x2FFF (R425). -/
theorem nametableAddr_toNat (v : BitVec 15) : (nametableAddr v).toNat = 0x2000 + v.toNat % 4096 := by
  have h : ((v &&& 0x0FFF).setWidth 14).toNat = v.toNat % 4096 := by
    rw [BitVec.toNat_setWidth, and_two_pow_sub_one_toNat v 0x0FFF 12 (by decide)]
    omega
  have lt : v.toNat % 4096 < 2 ^ 13 := by omega
  rw [nametableAddr, BitVec.toNat_or, h, show (0x2000 : BitVec 14).toNat = 2 ^ 13 * 1 from rfl,
    ← Nat.two_pow_add_eq_or_of_lt lt 1]

/-- An attribute fetch reads 0x23C0-0x2FFF (R426). -/
theorem attributeAddr_range (v : BitVec 15) : 0x2000 ≤ (attributeAddr v).toNat ∧ (attributeAddr v).toNat < 0x3000 := by
  have a1 : ((v &&& 0x0C00#15)).toNat < 2 ^ 12 :=
    lt_of_le_of_lt (by rw [BitVec.toNat_and]; exact Nat.and_le_right) (by decide : (0x0C00#15).toNat < 2 ^ 12)
  have a2 : (((v >>> 4) &&& 0x38#15)).toNat < 2 ^ 12 :=
    lt_of_le_of_lt (by rw [BitVec.toNat_and]; exact Nat.and_le_right) (by decide : (0x38#15).toNat < 2 ^ 12)
  have a3 : (((v >>> 2) &&& 0x07#15)).toNat < 2 ^ 12 :=
    lt_of_le_of_lt (by rw [BitVec.toNat_and]; exact Nat.and_le_right) (by decide : (0x07#15).toNat < 2 ^ 12)
  have e : (attributeAddr v).toNat =
      2 ^ 13 * 1 ||| (0x3C0 ||| ((v &&& 0x0C00#15)).toNat ||| (((v >>> 4) &&& 0x38#15)).toNat ||| (((v >>> 2) &&& 0x07#15)).toNat) := by
    have lt : (0x23C0 ||| ((v &&& 0x0C00#15)).toNat ||| (((v >>> 4) &&& 0x38#15)).toNat ||| (((v >>> 2) &&& 0x07#15)).toNat) < 2 ^ 14 :=
      Nat.or_lt_two_pow (Nat.or_lt_two_pow (Nat.or_lt_two_pow (by decide) (by omega)) (by omega)) (by omega)
    rw [attributeAddr, BitVec.toNat_setWidth, BitVec.toNat_or, BitVec.toNat_or, BitVec.toNat_or,
      show (0x23C0#15).toNat = 0x23C0 from rfl, Nat.mod_eq_of_lt lt, ← Nat.or_assoc, ← Nat.or_assoc, ← Nat.or_assoc]
    rfl
  have lt : (0x3C0 ||| ((v &&& 0x0C00#15)).toNat ||| (((v >>> 4) &&& 0x38#15)).toNat ||| (((v >>> 2) &&& 0x07#15)).toNat) < 2 ^ 12 :=
    Nat.or_lt_two_pow (Nat.or_lt_two_pow (Nat.or_lt_two_pow (by decide) a1) a2) a3
  rw [e, ← Nat.two_pow_add_eq_or_of_lt (lt_trans lt (by decide)) 1]
  omega

/-- A pattern fetch of rows 0 to 15 of a tile's 16 bytes reads 0x0000-0x1FFF (R112). -/
theorem patternAddr_lt (table : Bool) (tile : Byte) (row : BitVec 14) (h : row.toNat < 16) :
    (patternAddr table tile row).toNat < 0x2000 := by
  have := tile.isLt
  cases table <;>
    simp only [patternAddr, BitVec.toNat_add, BitVec.toNat_mul, BitVec.toNat_setWidth, if_true, if_false,
      Bool.false_eq_true, BitVec.ofNat_eq_ofNat, BitVec.toNat_ofNat] <;>
    omega

theorem fineY_lt (v : BitVec 15) : (fineY v).toNat < 8 := by
  have := v.isLt
  simp only [fineY, BitVec.toNat_setWidth, BitVec.toNat_ushiftRight, Nat.shiftRight_eq_div_pow]
  omega

/-! ## The NMI edge detector (R457) -/

section NmiChange
variable (d : Nat) (p : Ppu)

@[simp] theorem Ppu.nmiChange_previous : (Ppu.nmiChange d p).nmiPrevious = (p.ctrl.nmiOutput && p.vblank) := rfl
@[simp] theorem Ppu.nmiChange_delay : (Ppu.nmiChange d p).nmiDelay =
    if (p.ctrl.nmiOutput && p.vblank) && !p.nmiPrevious then d else p.nmiDelay := rfl
@[simp] theorem Ppu.nmiChange_ctrl : (Ppu.nmiChange d p).ctrl = p.ctrl := rfl
@[simp] theorem Ppu.nmiChange_vblank : (Ppu.nmiChange d p).vblank = p.vblank := rfl
@[simp] theorem Ppu.nmiChange_mask : (Ppu.nmiChange d p).mask = p.mask := rfl
@[simp] theorem Ppu.nmiChange_v : (Ppu.nmiChange d p).v = p.v := rfl
@[simp] theorem Ppu.nmiChange_oam : (Ppu.nmiChange d p).oam = p.oam := rfl
@[simp] theorem Ppu.nmiChange_pal : (Ppu.nmiChange d p).pal = p.pal := rfl
@[simp] theorem Ppu.nmiChange_ciram : (Ppu.nmiChange d p).ciram = p.ciram := rfl
@[simp] theorem Ppu.nmiChange_dot : (Ppu.nmiChange d p).dot = p.dot := rfl
@[simp] theorem Ppu.nmiChange_scanline : (Ppu.nmiChange d p).scanline = p.scanline := rfl
@[simp] theorem Ppu.nmiChange_bg : (Ppu.nmiChange d p).bg = p.bg := rfl
@[simp] theorem Ppu.nmiChange_sprCount : (Ppu.nmiChange d p).sprCount = p.sprCount := rfl

end NmiChange

/-! ## What a dot can change -/

/-- The fetches change the background pipeline, nothing else (R424 to R430). -/
theorem fetchWork_frame (c : Cart) (p : Ppu) : fetchWork c p = { p with bg := (fetchWork c p).bg } := by
  unfold fetchWork fetchNT fetchAT fetchLo fetchHi storeTile shiftTiles
  dsimp only
  split_ifs <;> rfl

/-- The scroll updates change `v`, nothing else (R431 to R434). -/
theorem scrollWork_frame (p : Ppu) : scrollWork p = { p with v := (scrollWork p).v } := rfl

/-- The sprite evaluation changes the sprite buffer and the overflow flag, nothing else (R440). -/
theorem spriteWork_frame (c : Cart) (p : Ppu) :
    spriteWork c p = { p with
      sprCount := (spriteWork c p).sprCount, sprites := (spriteWork c p).sprites
      sprOverflow := (spriteWork c p).sprOverflow } := by
  unfold spriteWork evaluateSprites
  split_ifs <;> rfl

/-- The dot's work with rendering enabled changes `v`, the background pipeline, the sprite buffer and the two sprite
flags, nothing else (R423, R424). -/
theorem renderWork_frame (c : Cart) (p : Ppu) :
    renderWork c p = { p with
      v := (renderWork c p).v, bg := (renderWork c p).bg, sprCount := (renderWork c p).sprCount
      sprites := (renderWork c p).sprites, spr0Hit := (renderWork c p).spr0Hit
      sprOverflow := (renderWork c p).sprOverflow } := by
  unfold renderWork
  dsimp only
  rw [spriteWork_frame, scrollWork_frame]
  split_ifs
  · rw [fetchWork_frame]; rfl
  · rfl
  · rw [fetchWork_frame]
  · rfl

/-- The vblank events change the three status flags and the NMI edge detector, nothing else (R423). -/
theorem vblankWork_frame (d : Nat) (p : Ppu) :
    vblankWork d p = { p with
      vblank := (vblankWork d p).vblank, spr0Hit := (vblankWork d p).spr0Hit
      sprOverflow := (vblankWork d p).sprOverflow, nmiPrevious := (vblankWork d p).nmiPrevious
      nmiDelay := (vblankWork d p).nmiDelay } := by
  unfold vblankWork Ppu.setVblank Ppu.clearFlags Ppu.nmiChange
  dsimp only
  split_ifs <;> rfl

/-- A tick changes the PPU, the NMI latch and the frame sink, nothing else (R420). -/
theorem tick_frame (s : State) :
    tick s = { s with
      ppu := (tick s).ppu, nmiPending := (tick s).nmiPending
      out := { s.out with pixels := (tick s).out.pixels } } := rfl

/-- Any number of ticks changes the PPU, the NMI latch and the frame sink, nothing else. -/
theorem runDots_frame (n : Nat) (s : State) :
    runDots n s = { s with
      ppu := (runDots n s).ppu, nmiPending := (runDots n s).nmiPending
      out := { s.out with pixels := (runDots n s).out.pixels } } := by
  induction n generalizing s with
  | zero => rfl
  | succ n ih =>
    show runDots n (tick s) = _
    rw [ih (tick s), tick_frame s]
    rfl

theorem runDots_add (m n : Nat) (s : State) : runDots (m + n) s = runDots n (runDots m s) := by
  induction m generalizing s with
  | zero => rw [Nat.zero_add]; rfl
  | succ m ih => rw [Nat.succ_add]; exact ih (tick s)

/-- The dots keep the CPU, its memories and the cartridge. -/
@[simp] theorem runDots_cycles (n : Nat) (s : State) : (runDots n s).cycles = s.cycles := by rw [runDots_frame]
@[simp] theorem runDots_cart (n : Nat) (s : State) : (runDots n s).cart = s.cart := by rw [runDots_frame]
@[simp] theorem runDots_params (n : Nat) (s : State) : (runDots n s).params = s.params := by rw [runDots_frame]
@[simp] theorem runDots_pc (n : Nat) (s : State) : (runDots n s).pc = s.pc := by rw [runDots_frame]
@[simp] theorem runDots_stall (n : Nat) (s : State) : (runDots n s).stall = s.stall := by rw [runDots_frame]

theorem peek_runDots (n : Nat) (s : State) (a : Word) : peek (runDots n s) a = peek s a := by
  rw [runDots_frame]
  rfl

end Sys2Proof.Machine
end

