-- ==== Sys2Proof/Laws/Frames.lean ====
section
/-! SUPPORT. The laws of the instruction frames (R165, R166), one per frame: what it answers once its CPU-bus accesses
answer, and when it stops; and of fetching and the CPU step (R508, R515). -/

namespace Sys2Proof.Machine

/-! ## Instruction frames -/

theorem readInstr_next {n c x : Nat} {m : AddrMode} {f : Byte → State → State} {s t : State} {v : Byte}
    (h : busRead (resolve m s).addr (s.advance n (frameCycles c x (resolve m s))) = .ok v t) :
    readInstr n c x m f s = .next (f v t) := by
  simp only [readInstr, h, Res.andThen_ok, Res.toOutcome_ok]

/-- All a reading instruction can answer. -/
theorem readInstr_eq_next {n c x : Nat} {m : AddrMode} {f : Byte → State → State} {s u : State}
    (h : readInstr n c x m f s = .next u) :
    ∃ v t, busRead (resolve m s).addr (s.advance n (frameCycles c x (resolve m s))) = .ok v t ∧ u = f v t := by
  obtain ⟨v, t, hr, hf⟩ := Res.andThen_eq_ok (Res.toOutcome_eq_next h)
  injection hf with _ hf
  exact ⟨v, t, hr, hf.symm⟩

theorem storeInstr_next {n c : Nat} {m : AddrMode} {value : State → Byte} {s t : State}
    (h : busWrite (resolve m s).addr (value s) (s.advance n c) = .ok () t) : storeInstr n c m value s = .next t := by
  simp only [storeInstr, h, Res.toOutcome_ok]

/-- All a storing instruction can answer. -/
theorem storeInstr_eq_next {n c : Nat} {m : AddrMode} {value : State → Byte} {s t : State}
    (h : storeInstr n c m value s = .next t) : busWrite (resolve m s).addr (value s) (s.advance n c) = .ok () t :=
  Res.toOutcome_eq_next h

theorem rmwInstr_next {n c : Nat} {m : AddrMode} {f : Byte → State → Byte × State} {g : Byte → State → State}
    {s t u : State} {v : Byte} (hr : busRead (resolve m s).addr (s.advance n c) = .ok v t)
    (hw : busWrite (resolve m s).addr (f v t).1 (f v t).2 = .ok () u) :
    rmwInstr n c m f g s = .next (g (f v t).1 u) := by
  simp only [rmwInstr, hr, hw, Res.andThen_ok, Res.toOutcome_ok]

/-- All a read-modify-write instruction can answer. -/
theorem rmwInstr_eq_next {n c : Nat} {m : AddrMode} {f : Byte → State → Byte × State} {g : Byte → State → State}
    {s w : State} (h : rmwInstr n c m f g s = .next w) :
    ∃ v t u, busRead (resolve m s).addr (s.advance n c) = .ok v t ∧
      busWrite (resolve m s).addr (f v t).1 (f v t).2 = .ok () u ∧ w = g (f v t).1 u := by
  obtain ⟨v, t, hr, hf⟩ := Res.andThen_eq_ok (Res.toOutcome_eq_next h)
  obtain ⟨_, u, hw, hg⟩ := Res.andThen_eq_ok hf
  injection hg with _ hg
  exact ⟨v, t, u, hr, hw, hg.symm⟩

theorem readInstr_stop {n c x : Nat} {m : AddrMode} {f : Byte → State → State} {s : State} {e : Fault}
    (h : busRead (resolve m s).addr (s.advance n (frameCycles c x (resolve m s))) = .stop e) :
    readInstr n c x m f s = .fault e := by
  simp only [readInstr, h, Res.andThen_stop, Res.toOutcome_stop]

theorem storeInstr_stop {n c : Nat} {m : AddrMode} {value : State → Byte} {s : State} {e : Fault}
    (h : busWrite (resolve m s).addr (value s) (s.advance n c) = .stop e) : storeInstr n c m value s = .fault e := by
  simp only [storeInstr, h, Res.toOutcome_stop]

theorem rmwInstr_stop_read {n c : Nat} {m : AddrMode} {f : Byte → State → Byte × State} {g : Byte → State → State}
    {s : State} {e : Fault} (h : busRead (resolve m s).addr (s.advance n c) = .stop e) :
    rmwInstr n c m f g s = .fault e := by
  simp only [rmwInstr, h, Res.andThen_stop, Res.toOutcome_stop]

theorem rmwInstr_stop_write {n c : Nat} {m : AddrMode} {f : Byte → State → Byte × State} {g : Byte → State → State}
    {s t : State} {v : Byte} {e : Fault} (hr : busRead (resolve m s).addr (s.advance n c) = .ok v t)
    (hw : busWrite (resolve m s).addr (f v t).1 (f v t).2 = .stop e) : rmwInstr n c m f g s = .fault e := by
  simp only [rmwInstr, hr, hw, Res.andThen_ok, Res.andThen_stop, Res.toOutcome_stop]

/-- The effective address is resolved before PC and the cycle counter move, and does not depend on them. -/
@[simp] theorem resolve_advance (m : AddrMode) (s : State) (n c : Nat) : resolve m (s.advance n c) = resolve m s := by
  cases m <;> rfl

/-! ## Fetching -/

/-- The decoder has a row for every opcode byte, so a fetch that reads its bytes gives an instruction (R157, R160). -/
theorem fetchedInstr_ok (op b1 b2 : Byte) (s : State) :
    ∃ i, decodeBytes op b1 b2 = some i ∧ fetchedInstr op b1 b2 s = .ok i s := by
  obtain ⟨i, hi⟩ := decodeBytes_some op b1 b2
  exact ⟨i, hi, by rw [fetchedInstr, hi]⟩

/-- An operand byte that can be read is the byte the bus gives (R146, R165). -/
theorem operandByte_of_ok {op b : Byte} {a : Word} {s t : State} (h : busRead a s = .ok b t) :
    operandByte op a s = .ok b t := by
  simp only [operandByte, h]

/-- All an operand byte can answer without a fault: the byte the bus gives, or nothing read where the handler refuses
first (R326, R327). -/
theorem operandByte_eq_ok {op b : Byte} {a : Word} {s t : State} (h : operandByte op a s = .ok b t) :
    busRead a s = .ok b t ∨ (refusesUnread op s = true ∧ b = 0 ∧ t = s) := by
  unfold operandByte at h
  split at h
  · rename_i c u hr
    exact .inl (hr.trans h)
  · split at h
    · rename_i hu
      injection h with hb ht
      exact .inr ⟨hu, hb.symm, ht.symm⟩
    · split at h <;> exact nomatch h

/-- Only XAA and LXA refuse with their byte unread, and only under `refuse` (R326, R332). -/
theorem refusesUnread_iff (op : Byte) (s : State) :
    refusesUnread op s = true ↔ s.params.unstable = .refuse ∧ (op = 0x8B ∨ op = 0xAB) := by
  have opcodes : ∀ op : Byte, (handlerReads op && isUnstable op) = (op == 0x8B || op == 0xAB) := by decide
  simp [refusesUnread, opcodes]

/-! ## The CPU step -/

theorem cpuStep_stall {s : State} (h : 0 < s.stall) : cpuStep s = .next s.dropInput.stallCycle := by
  rw [cpuStep, if_pos h]

theorem cpuStep_nmi {s : State} (h0 : s.stall = 0) (h1 : s.nmiPending = true) :
    cpuStep s = (takeInterrupt 0xFFFA s.dropInput.clearNmi).toOutcome := by
  rw [cpuStep, if_neg (by omega), if_pos h1]

theorem cpuStep_irq {s : State} (h0 : s.stall = 0) (h1 : s.nmiPending = false) (h2 : s.irqLine = true)
    (h3 : s.p.i = false) : cpuStep s = (takeInterrupt 0xFFFE s.dropInput).toOutcome := by
  rw [cpuStep, if_neg (by omega), if_neg (by rw [h1]; decide), if_pos ⟨h2, h3⟩]

theorem cpuStep_instr {s : State} (h0 : s.stall = 0) (h1 : s.nmiPending = false)
    (h2 : s.irqLine = false ∨ s.p.i = true) : cpuStep s = instrStep s.dropInput := by
  rw [cpuStep, if_neg (by omega), if_neg (by rw [h1]; decide), if_neg]
  rintro ⟨a, b⟩
  rcases h2 with h | h
  · rw [h] at a; exact absurd a (by decide)
  · rw [h] at b; exact absurd b (by decide)

theorem consoleStep_next {s t : State} (h : cpuStep s = .next t) :
    consoleStep s = .next (runDots (3 * (t.cycles - s.cycles)) t) := by
  simp only [consoleStep, h]

/-- All a console step can answer with a next state. -/
theorem consoleStep_eq_next {s u : State} (h : consoleStep s = .next u) :
    ∃ t, cpuStep s = .next t ∧ u = runDots (3 * (t.cycles - s.cycles)) t := by
  unfold consoleStep at h
  split at h
  · rename_i t ht
    exact ⟨t, ht, by injection h with h; exact h.symm⟩
  · simp at h
  · simp at h

end Sys2Proof.Machine
end

