-- ==== Sys2Proof/Laws/Rows.lean ====
section
/-! SUPPORT. The opcode table row, the memory mode and the frame of every instruction, one lemma each per constructor, so that no
proof evaluates the opcode map. -/

namespace Sys2Proof.Machine

/-- A row with no page-cross cost. -/
@[simp] theorem frameCycles_zero (c : Nat) (e : EA) : frameCycles c 0 e = c := by
  unfold frameCycles
  split <;> rfl

/-- The frame of an instruction with a memory operand, from its row. -/
theorem afterFrame_of_mode {i : Instr} {d : Descriptor} {m : AddrMode} (hd : i.descriptor? = some d)
    (hm : memMode i = some m) (s : State) :
    afterFrame i s = s.advance d.size (frameCycles d.cycles d.pageCross (resolve m s)) := by
  simp only [afterFrame, pageCrossed, hd, hm]
  rfl

/-- The frame of an instruction with no memory operand, from its row. -/
theorem afterFrame_of_none {i : Instr} {d : Descriptor} (hd : i.descriptor? = some d) (hm : memMode i = none)
    (s : State) : afterFrame i s = s.advance d.size d.cycles := by
  simp only [afterFrame, pageCrossed, hd, hm]
  rfl

/-- An instruction's memory mode, from its row and its operand bytes. -/
theorem memMode_of_row {i : Instr} {d : Descriptor} (hd : i.descriptor? = some d) :
    memMode i = addrModeOf d.mode (encode i).tail := by
  rw [memMode, hd]
  rfl

/-! ### brk -/

@[simp] theorem descriptor?_brk : Instr.brk.descriptor? =
    some ⟨.mBRK, .implied, 2, 7, 0, .documented, .f1 .brk⟩ := by
  show Sys2Proof.descriptor? 0x00 = _
  rfl

@[simp] theorem memMode_brk : memMode Instr.brk = none := by
  rw [memMode_of_row (descriptor?_brk)]
  rfl

@[simp] theorem afterFrame_brk (s : State) : afterFrame Instr.brk s = s.advance 2 7 :=
  afterFrame_of_none (descriptor?_brk) (memMode_brk) s

/-! ### oraIndX -/

@[simp] theorem descriptor?_oraIndX (b : Byte) : (Instr.oraIndX b).descriptor? =
    some ⟨.mORA, .indexedIndirect, 2, 6, 0, .documented, .f2 .oraIndX⟩ := by
  show Sys2Proof.descriptor? 0x01 = _
  rfl

@[simp] theorem memMode_oraIndX (b : Byte) : memMode (Instr.oraIndX b) = some (.indexedIndirect b) := by
  rw [memMode_of_row (descriptor?_oraIndX b)]
  rfl


@[simp] theorem afterFrame_oraIndX (b : Byte) (s : State) : afterFrame (Instr.oraIndX b) s = s.advance 2 6 := by
  rw [afterFrame_of_mode (descriptor?_oraIndX b) (memMode_oraIndX b), frameCycles_zero]

/-! ### jam02 -/

@[simp] theorem descriptor?_jam02 : Instr.jam02.descriptor? =
    some ⟨.mJAM, .implied, 1, 2, 0, .undocumented, .f1 .jam02⟩ := by
  show Sys2Proof.descriptor? 0x02 = _
  rfl

@[simp] theorem memMode_jam02 : memMode Instr.jam02 = none := by
  rw [memMode_of_row (descriptor?_jam02)]
  rfl

@[simp] theorem afterFrame_jam02 (s : State) : afterFrame Instr.jam02 s = s.advance 1 2 :=
  afterFrame_of_none (descriptor?_jam02) (memMode_jam02) s

/-! ### sloIndX -/

@[simp] theorem descriptor?_sloIndX (b : Byte) : (Instr.sloIndX b).descriptor? =
    some ⟨.mSLO, .indexedIndirect, 2, 8, 0, .undocumented, .f2 .sloIndX⟩ := by
  show Sys2Proof.descriptor? 0x03 = _
  rfl

@[simp] theorem memMode_sloIndX (b : Byte) : memMode (Instr.sloIndX b) = some (.indexedIndirect b) := by
  rw [memMode_of_row (descriptor?_sloIndX b)]
  rfl


@[simp] theorem afterFrame_sloIndX (b : Byte) (s : State) : afterFrame (Instr.sloIndX b) s = s.advance 2 8 := by
  rw [afterFrame_of_mode (descriptor?_sloIndX b) (memMode_sloIndX b), frameCycles_zero]

/-! ### nopZp04 -/

@[simp] theorem descriptor?_nopZp04 (b : Byte) : (Instr.nopZp04 b).descriptor? =
    some ⟨.mNOP, .zeroPage, 2, 3, 0, .undocumented, .f2 .nopZp04⟩ := by
  show Sys2Proof.descriptor? 0x04 = _
  rfl

@[simp] theorem memMode_nopZp04 (b : Byte) : memMode (Instr.nopZp04 b) = some (.zeroPage b) := by
  rw [memMode_of_row (descriptor?_nopZp04 b)]
  rfl


@[simp] theorem afterFrame_nopZp04 (b : Byte) (s : State) : afterFrame (Instr.nopZp04 b) s = s.advance 2 3 := by
  rw [afterFrame_of_mode (descriptor?_nopZp04 b) (memMode_nopZp04 b), frameCycles_zero]

/-! ### oraZp -/

@[simp] theorem descriptor?_oraZp (b : Byte) : (Instr.oraZp b).descriptor? =
    some ⟨.mORA, .zeroPage, 2, 3, 0, .documented, .f2 .oraZp⟩ := by
  show Sys2Proof.descriptor? 0x05 = _
  rfl

@[simp] theorem memMode_oraZp (b : Byte) : memMode (Instr.oraZp b) = some (.zeroPage b) := by
  rw [memMode_of_row (descriptor?_oraZp b)]
  rfl


@[simp] theorem afterFrame_oraZp (b : Byte) (s : State) : afterFrame (Instr.oraZp b) s = s.advance 2 3 := by
  rw [afterFrame_of_mode (descriptor?_oraZp b) (memMode_oraZp b), frameCycles_zero]

/-! ### aslZp -/

@[simp] theorem descriptor?_aslZp (b : Byte) : (Instr.aslZp b).descriptor? =
    some ⟨.mASL, .zeroPage, 2, 5, 0, .documented, .f2 .aslZp⟩ := by
  show Sys2Proof.descriptor? 0x06 = _
  rfl

@[simp] theorem memMode_aslZp (b : Byte) : memMode (Instr.aslZp b) = some (.zeroPage b) := by
  rw [memMode_of_row (descriptor?_aslZp b)]
  rfl


@[simp] theorem afterFrame_aslZp (b : Byte) (s : State) : afterFrame (Instr.aslZp b) s = s.advance 2 5 := by
  rw [afterFrame_of_mode (descriptor?_aslZp b) (memMode_aslZp b), frameCycles_zero]

/-! ### sloZp -/

@[simp] theorem descriptor?_sloZp (b : Byte) : (Instr.sloZp b).descriptor? =
    some ⟨.mSLO, .zeroPage, 2, 5, 0, .undocumented, .f2 .sloZp⟩ := by
  show Sys2Proof.descriptor? 0x07 = _
  rfl

@[simp] theorem memMode_sloZp (b : Byte) : memMode (Instr.sloZp b) = some (.zeroPage b) := by
  rw [memMode_of_row (descriptor?_sloZp b)]
  rfl


@[simp] theorem afterFrame_sloZp (b : Byte) (s : State) : afterFrame (Instr.sloZp b) s = s.advance 2 5 := by
  rw [afterFrame_of_mode (descriptor?_sloZp b) (memMode_sloZp b), frameCycles_zero]

/-! ### php -/

@[simp] theorem descriptor?_php : Instr.php.descriptor? =
    some ⟨.mPHP, .implied, 1, 3, 0, .documented, .f1 .php⟩ := by
  show Sys2Proof.descriptor? 0x08 = _
  rfl

@[simp] theorem memMode_php : memMode Instr.php = none := by
  rw [memMode_of_row (descriptor?_php)]
  rfl

@[simp] theorem afterFrame_php (s : State) : afterFrame Instr.php s = s.advance 1 3 :=
  afterFrame_of_none (descriptor?_php) (memMode_php) s

/-! ### oraImm -/

@[simp] theorem descriptor?_oraImm (b : Byte) : (Instr.oraImm b).descriptor? =
    some ⟨.mORA, .immediate, 2, 2, 0, .documented, .f2 .oraImm⟩ := by
  show Sys2Proof.descriptor? 0x09 = _
  rfl

@[simp] theorem memMode_oraImm (b : Byte) : memMode (Instr.oraImm b) = none := by
  rw [memMode_of_row (descriptor?_oraImm b)]
  rfl

@[simp] theorem afterFrame_oraImm (b : Byte) (s : State) : afterFrame (Instr.oraImm b) s = s.advance 2 2 :=
  afterFrame_of_none (descriptor?_oraImm b) (memMode_oraImm b) s

/-! ### aslAcc -/

@[simp] theorem descriptor?_aslAcc : Instr.aslAcc.descriptor? =
    some ⟨.mASL, .accumulator, 1, 2, 0, .documented, .f1 .aslAcc⟩ := by
  show Sys2Proof.descriptor? 0x0A = _
  rfl

@[simp] theorem memMode_aslAcc : memMode Instr.aslAcc = none := by
  rw [memMode_of_row (descriptor?_aslAcc)]
  rfl

@[simp] theorem afterFrame_aslAcc (s : State) : afterFrame Instr.aslAcc s = s.advance 1 2 :=
  afterFrame_of_none (descriptor?_aslAcc) (memMode_aslAcc) s

/-! ### ancImm0B -/

@[simp] theorem descriptor?_ancImm0B (b : Byte) : (Instr.ancImm0B b).descriptor? =
    some ⟨.mANC, .immediate, 2, 2, 0, .undocumented, .f2 .ancImm0B⟩ := by
  show Sys2Proof.descriptor? 0x0B = _
  rfl

@[simp] theorem memMode_ancImm0B (b : Byte) : memMode (Instr.ancImm0B b) = none := by
  rw [memMode_of_row (descriptor?_ancImm0B b)]
  rfl

@[simp] theorem afterFrame_ancImm0B (b : Byte) (s : State) : afterFrame (Instr.ancImm0B b) s = s.advance 2 2 :=
  afterFrame_of_none (descriptor?_ancImm0B b) (memMode_ancImm0B b) s

/-! ### nopAbs -/

@[simp] theorem descriptor?_nopAbs (w : Word) : (Instr.nopAbs w).descriptor? =
    some ⟨.mNOP, .absolute, 3, 4, 0, .undocumented, .f3 .nopAbs⟩ := by
  show Sys2Proof.descriptor? 0x0C = _
  rfl

@[simp] theorem memMode_nopAbs (w : Word) : memMode (Instr.nopAbs w) = some (.absolute w) := by
  rw [memMode_of_row (descriptor?_nopAbs w)]
  exact congrArg (fun a => some (AddrMode.absolute a)) (wordOf_high_low w)


@[simp] theorem afterFrame_nopAbs (w : Word) (s : State) : afterFrame (Instr.nopAbs w) s = s.advance 3 4 := by
  rw [afterFrame_of_mode (descriptor?_nopAbs w) (memMode_nopAbs w), frameCycles_zero]

/-! ### oraAbs -/

@[simp] theorem descriptor?_oraAbs (w : Word) : (Instr.oraAbs w).descriptor? =
    some ⟨.mORA, .absolute, 3, 4, 0, .documented, .f3 .oraAbs⟩ := by
  show Sys2Proof.descriptor? 0x0D = _
  rfl

@[simp] theorem memMode_oraAbs (w : Word) : memMode (Instr.oraAbs w) = some (.absolute w) := by
  rw [memMode_of_row (descriptor?_oraAbs w)]
  exact congrArg (fun a => some (AddrMode.absolute a)) (wordOf_high_low w)


@[simp] theorem afterFrame_oraAbs (w : Word) (s : State) : afterFrame (Instr.oraAbs w) s = s.advance 3 4 := by
  rw [afterFrame_of_mode (descriptor?_oraAbs w) (memMode_oraAbs w), frameCycles_zero]

/-! ### aslAbs -/

@[simp] theorem descriptor?_aslAbs (w : Word) : (Instr.aslAbs w).descriptor? =
    some ⟨.mASL, .absolute, 3, 6, 0, .documented, .f3 .aslAbs⟩ := by
  show Sys2Proof.descriptor? 0x0E = _
  rfl

@[simp] theorem memMode_aslAbs (w : Word) : memMode (Instr.aslAbs w) = some (.absolute w) := by
  rw [memMode_of_row (descriptor?_aslAbs w)]
  exact congrArg (fun a => some (AddrMode.absolute a)) (wordOf_high_low w)


@[simp] theorem afterFrame_aslAbs (w : Word) (s : State) : afterFrame (Instr.aslAbs w) s = s.advance 3 6 := by
  rw [afterFrame_of_mode (descriptor?_aslAbs w) (memMode_aslAbs w), frameCycles_zero]

/-! ### sloAbs -/

@[simp] theorem descriptor?_sloAbs (w : Word) : (Instr.sloAbs w).descriptor? =
    some ⟨.mSLO, .absolute, 3, 6, 0, .undocumented, .f3 .sloAbs⟩ := by
  show Sys2Proof.descriptor? 0x0F = _
  rfl

@[simp] theorem memMode_sloAbs (w : Word) : memMode (Instr.sloAbs w) = some (.absolute w) := by
  rw [memMode_of_row (descriptor?_sloAbs w)]
  exact congrArg (fun a => some (AddrMode.absolute a)) (wordOf_high_low w)


@[simp] theorem afterFrame_sloAbs (w : Word) (s : State) : afterFrame (Instr.sloAbs w) s = s.advance 3 6 := by
  rw [afterFrame_of_mode (descriptor?_sloAbs w) (memMode_sloAbs w), frameCycles_zero]

/-! ### bpl -/

@[simp] theorem descriptor?_bpl (off : Int) : (Instr.bpl off).descriptor? =
    some ⟨.mBPL, .relative, 2, 2, 0, .documented, .f2 fun b => .bpl b.toInt⟩ := by
  show Sys2Proof.descriptor? 0x10 = _
  rfl

@[simp] theorem memMode_bpl (off : Int) : memMode (Instr.bpl off) = none := by
  rw [memMode_of_row (descriptor?_bpl off)]
  rfl

@[simp] theorem afterFrame_bpl (off : Int) (s : State) : afterFrame (Instr.bpl off) s = s.advance 2 2 :=
  afterFrame_of_none (descriptor?_bpl off) (memMode_bpl off) s

/-! ### oraIndY -/

@[simp] theorem descriptor?_oraIndY (b : Byte) : (Instr.oraIndY b).descriptor? =
    some ⟨.mORA, .indirectIndexed, 2, 5, 1, .documented, .f2 .oraIndY⟩ := by
  show Sys2Proof.descriptor? 0x11 = _
  rfl

@[simp] theorem memMode_oraIndY (b : Byte) : memMode (Instr.oraIndY b) = some (.indirectIndexed b) := by
  rw [memMode_of_row (descriptor?_oraIndY b)]
  rfl


@[simp] theorem afterFrame_oraIndY (b : Byte) (s : State) : afterFrame (Instr.oraIndY b) s =
    s.advance 2 (frameCycles 5 1 (resolve (.indirectIndexed b) s)) :=
  afterFrame_of_mode (descriptor?_oraIndY b) (memMode_oraIndY b) s

/-! ### jam12 -/

@[simp] theorem descriptor?_jam12 : Instr.jam12.descriptor? =
    some ⟨.mJAM, .implied, 1, 2, 0, .undocumented, .f1 .jam12⟩ := by
  show Sys2Proof.descriptor? 0x12 = _
  rfl

@[simp] theorem memMode_jam12 : memMode Instr.jam12 = none := by
  rw [memMode_of_row (descriptor?_jam12)]
  rfl

@[simp] theorem afterFrame_jam12 (s : State) : afterFrame Instr.jam12 s = s.advance 1 2 :=
  afterFrame_of_none (descriptor?_jam12) (memMode_jam12) s

/-! ### sloIndY -/

@[simp] theorem descriptor?_sloIndY (b : Byte) : (Instr.sloIndY b).descriptor? =
    some ⟨.mSLO, .indirectIndexed, 2, 8, 0, .undocumented, .f2 .sloIndY⟩ := by
  show Sys2Proof.descriptor? 0x13 = _
  rfl

@[simp] theorem memMode_sloIndY (b : Byte) : memMode (Instr.sloIndY b) = some (.indirectIndexed b) := by
  rw [memMode_of_row (descriptor?_sloIndY b)]
  rfl


@[simp] theorem afterFrame_sloIndY (b : Byte) (s : State) : afterFrame (Instr.sloIndY b) s = s.advance 2 8 := by
  rw [afterFrame_of_mode (descriptor?_sloIndY b) (memMode_sloIndY b), frameCycles_zero]

/-! ### nopZpX14 -/

@[simp] theorem descriptor?_nopZpX14 (b : Byte) : (Instr.nopZpX14 b).descriptor? =
    some ⟨.mNOP, .zeroPageX, 2, 4, 0, .undocumented, .f2 .nopZpX14⟩ := by
  show Sys2Proof.descriptor? 0x14 = _
  rfl

@[simp] theorem memMode_nopZpX14 (b : Byte) : memMode (Instr.nopZpX14 b) = some (.zeroPageX b) := by
  rw [memMode_of_row (descriptor?_nopZpX14 b)]
  rfl


@[simp] theorem afterFrame_nopZpX14 (b : Byte) (s : State) : afterFrame (Instr.nopZpX14 b) s = s.advance 2 4 := by
  rw [afterFrame_of_mode (descriptor?_nopZpX14 b) (memMode_nopZpX14 b), frameCycles_zero]

/-! ### oraZpX -/

@[simp] theorem descriptor?_oraZpX (b : Byte) : (Instr.oraZpX b).descriptor? =
    some ⟨.mORA, .zeroPageX, 2, 4, 0, .documented, .f2 .oraZpX⟩ := by
  show Sys2Proof.descriptor? 0x15 = _
  rfl

@[simp] theorem memMode_oraZpX (b : Byte) : memMode (Instr.oraZpX b) = some (.zeroPageX b) := by
  rw [memMode_of_row (descriptor?_oraZpX b)]
  rfl


@[simp] theorem afterFrame_oraZpX (b : Byte) (s : State) : afterFrame (Instr.oraZpX b) s = s.advance 2 4 := by
  rw [afterFrame_of_mode (descriptor?_oraZpX b) (memMode_oraZpX b), frameCycles_zero]

/-! ### aslZpX -/

@[simp] theorem descriptor?_aslZpX (b : Byte) : (Instr.aslZpX b).descriptor? =
    some ⟨.mASL, .zeroPageX, 2, 6, 0, .documented, .f2 .aslZpX⟩ := by
  show Sys2Proof.descriptor? 0x16 = _
  rfl

@[simp] theorem memMode_aslZpX (b : Byte) : memMode (Instr.aslZpX b) = some (.zeroPageX b) := by
  rw [memMode_of_row (descriptor?_aslZpX b)]
  rfl


@[simp] theorem afterFrame_aslZpX (b : Byte) (s : State) : afterFrame (Instr.aslZpX b) s = s.advance 2 6 := by
  rw [afterFrame_of_mode (descriptor?_aslZpX b) (memMode_aslZpX b), frameCycles_zero]

/-! ### sloZpX -/

@[simp] theorem descriptor?_sloZpX (b : Byte) : (Instr.sloZpX b).descriptor? =
    some ⟨.mSLO, .zeroPageX, 2, 6, 0, .undocumented, .f2 .sloZpX⟩ := by
  show Sys2Proof.descriptor? 0x17 = _
  rfl

@[simp] theorem memMode_sloZpX (b : Byte) : memMode (Instr.sloZpX b) = some (.zeroPageX b) := by
  rw [memMode_of_row (descriptor?_sloZpX b)]
  rfl


@[simp] theorem afterFrame_sloZpX (b : Byte) (s : State) : afterFrame (Instr.sloZpX b) s = s.advance 2 6 := by
  rw [afterFrame_of_mode (descriptor?_sloZpX b) (memMode_sloZpX b), frameCycles_zero]

/-! ### clc -/

@[simp] theorem descriptor?_clc : Instr.clc.descriptor? =
    some ⟨.mCLC, .implied, 1, 2, 0, .documented, .f1 .clc⟩ := by
  show Sys2Proof.descriptor? 0x18 = _
  rfl

@[simp] theorem memMode_clc : memMode Instr.clc = none := by
  rw [memMode_of_row (descriptor?_clc)]
  rfl

@[simp] theorem afterFrame_clc (s : State) : afterFrame Instr.clc s = s.advance 1 2 :=
  afterFrame_of_none (descriptor?_clc) (memMode_clc) s

/-! ### oraAbsY -/

@[simp] theorem descriptor?_oraAbsY (w : Word) : (Instr.oraAbsY w).descriptor? =
    some ⟨.mORA, .absoluteY, 3, 4, 1, .documented, .f3 .oraAbsY⟩ := by
  show Sys2Proof.descriptor? 0x19 = _
  rfl

@[simp] theorem memMode_oraAbsY (w : Word) : memMode (Instr.oraAbsY w) = some (.absoluteY w) := by
  rw [memMode_of_row (descriptor?_oraAbsY w)]
  exact congrArg (fun a => some (AddrMode.absoluteY a)) (wordOf_high_low w)


@[simp] theorem afterFrame_oraAbsY (w : Word) (s : State) : afterFrame (Instr.oraAbsY w) s =
    s.advance 3 (frameCycles 4 1 (resolve (.absoluteY w) s)) :=
  afterFrame_of_mode (descriptor?_oraAbsY w) (memMode_oraAbsY w) s

/-! ### nopImp1A -/

@[simp] theorem descriptor?_nopImp1A : Instr.nopImp1A.descriptor? =
    some ⟨.mNOP, .implied, 1, 2, 0, .undocumented, .f1 .nopImp1A⟩ := by
  show Sys2Proof.descriptor? 0x1A = _
  rfl

@[simp] theorem memMode_nopImp1A : memMode Instr.nopImp1A = none := by
  rw [memMode_of_row (descriptor?_nopImp1A)]
  rfl

@[simp] theorem afterFrame_nopImp1A (s : State) : afterFrame Instr.nopImp1A s = s.advance 1 2 :=
  afterFrame_of_none (descriptor?_nopImp1A) (memMode_nopImp1A) s

/-! ### sloAbsY -/

@[simp] theorem descriptor?_sloAbsY (w : Word) : (Instr.sloAbsY w).descriptor? =
    some ⟨.mSLO, .absoluteY, 3, 7, 0, .undocumented, .f3 .sloAbsY⟩ := by
  show Sys2Proof.descriptor? 0x1B = _
  rfl

@[simp] theorem memMode_sloAbsY (w : Word) : memMode (Instr.sloAbsY w) = some (.absoluteY w) := by
  rw [memMode_of_row (descriptor?_sloAbsY w)]
  exact congrArg (fun a => some (AddrMode.absoluteY a)) (wordOf_high_low w)


@[simp] theorem afterFrame_sloAbsY (w : Word) (s : State) : afterFrame (Instr.sloAbsY w) s = s.advance 3 7 := by
  rw [afterFrame_of_mode (descriptor?_sloAbsY w) (memMode_sloAbsY w), frameCycles_zero]

/-! ### nopAbsX1C -/

@[simp] theorem descriptor?_nopAbsX1C (w : Word) : (Instr.nopAbsX1C w).descriptor? =
    some ⟨.mNOP, .absoluteX, 3, 4, 1, .undocumented, .f3 .nopAbsX1C⟩ := by
  show Sys2Proof.descriptor? 0x1C = _
  rfl

@[simp] theorem memMode_nopAbsX1C (w : Word) : memMode (Instr.nopAbsX1C w) = some (.absoluteX w) := by
  rw [memMode_of_row (descriptor?_nopAbsX1C w)]
  exact congrArg (fun a => some (AddrMode.absoluteX a)) (wordOf_high_low w)


@[simp] theorem afterFrame_nopAbsX1C (w : Word) (s : State) : afterFrame (Instr.nopAbsX1C w) s =
    s.advance 3 (frameCycles 4 1 (resolve (.absoluteX w) s)) :=
  afterFrame_of_mode (descriptor?_nopAbsX1C w) (memMode_nopAbsX1C w) s

/-! ### oraAbsX -/

@[simp] theorem descriptor?_oraAbsX (w : Word) : (Instr.oraAbsX w).descriptor? =
    some ⟨.mORA, .absoluteX, 3, 4, 1, .documented, .f3 .oraAbsX⟩ := by
  show Sys2Proof.descriptor? 0x1D = _
  rfl

@[simp] theorem memMode_oraAbsX (w : Word) : memMode (Instr.oraAbsX w) = some (.absoluteX w) := by
  rw [memMode_of_row (descriptor?_oraAbsX w)]
  exact congrArg (fun a => some (AddrMode.absoluteX a)) (wordOf_high_low w)


@[simp] theorem afterFrame_oraAbsX (w : Word) (s : State) : afterFrame (Instr.oraAbsX w) s =
    s.advance 3 (frameCycles 4 1 (resolve (.absoluteX w) s)) :=
  afterFrame_of_mode (descriptor?_oraAbsX w) (memMode_oraAbsX w) s

/-! ### aslAbsX -/

@[simp] theorem descriptor?_aslAbsX (w : Word) : (Instr.aslAbsX w).descriptor? =
    some ⟨.mASL, .absoluteX, 3, 7, 0, .documented, .f3 .aslAbsX⟩ := by
  show Sys2Proof.descriptor? 0x1E = _
  rfl

@[simp] theorem memMode_aslAbsX (w : Word) : memMode (Instr.aslAbsX w) = some (.absoluteX w) := by
  rw [memMode_of_row (descriptor?_aslAbsX w)]
  exact congrArg (fun a => some (AddrMode.absoluteX a)) (wordOf_high_low w)


@[simp] theorem afterFrame_aslAbsX (w : Word) (s : State) : afterFrame (Instr.aslAbsX w) s = s.advance 3 7 := by
  rw [afterFrame_of_mode (descriptor?_aslAbsX w) (memMode_aslAbsX w), frameCycles_zero]

/-! ### sloAbsX -/

@[simp] theorem descriptor?_sloAbsX (w : Word) : (Instr.sloAbsX w).descriptor? =
    some ⟨.mSLO, .absoluteX, 3, 7, 0, .undocumented, .f3 .sloAbsX⟩ := by
  show Sys2Proof.descriptor? 0x1F = _
  rfl

@[simp] theorem memMode_sloAbsX (w : Word) : memMode (Instr.sloAbsX w) = some (.absoluteX w) := by
  rw [memMode_of_row (descriptor?_sloAbsX w)]
  exact congrArg (fun a => some (AddrMode.absoluteX a)) (wordOf_high_low w)


@[simp] theorem afterFrame_sloAbsX (w : Word) (s : State) : afterFrame (Instr.sloAbsX w) s = s.advance 3 7 := by
  rw [afterFrame_of_mode (descriptor?_sloAbsX w) (memMode_sloAbsX w), frameCycles_zero]

/-! ### jsrAbs -/

@[simp] theorem descriptor?_jsrAbs (w : Word) : (Instr.jsrAbs w).descriptor? =
    some ⟨.mJSR, .absolute, 3, 6, 0, .documented, .f3 .jsrAbs⟩ := by
  show Sys2Proof.descriptor? 0x20 = _
  rfl

@[simp] theorem memMode_jsrAbs (w : Word) : memMode (Instr.jsrAbs w) = some (.absolute w) := by
  rw [memMode_of_row (descriptor?_jsrAbs w)]
  exact congrArg (fun a => some (AddrMode.absolute a)) (wordOf_high_low w)


@[simp] theorem afterFrame_jsrAbs (w : Word) (s : State) : afterFrame (Instr.jsrAbs w) s = s.advance 3 6 := by
  rw [afterFrame_of_mode (descriptor?_jsrAbs w) (memMode_jsrAbs w), frameCycles_zero]

/-! ### andIndX -/

@[simp] theorem descriptor?_andIndX (b : Byte) : (Instr.andIndX b).descriptor? =
    some ⟨.mAND, .indexedIndirect, 2, 6, 0, .documented, .f2 .andIndX⟩ := by
  show Sys2Proof.descriptor? 0x21 = _
  rfl

@[simp] theorem memMode_andIndX (b : Byte) : memMode (Instr.andIndX b) = some (.indexedIndirect b) := by
  rw [memMode_of_row (descriptor?_andIndX b)]
  rfl


@[simp] theorem afterFrame_andIndX (b : Byte) (s : State) : afterFrame (Instr.andIndX b) s = s.advance 2 6 := by
  rw [afterFrame_of_mode (descriptor?_andIndX b) (memMode_andIndX b), frameCycles_zero]

/-! ### jam22 -/

@[simp] theorem descriptor?_jam22 : Instr.jam22.descriptor? =
    some ⟨.mJAM, .implied, 1, 2, 0, .undocumented, .f1 .jam22⟩ := by
  show Sys2Proof.descriptor? 0x22 = _
  rfl

@[simp] theorem memMode_jam22 : memMode Instr.jam22 = none := by
  rw [memMode_of_row (descriptor?_jam22)]
  rfl

@[simp] theorem afterFrame_jam22 (s : State) : afterFrame Instr.jam22 s = s.advance 1 2 :=
  afterFrame_of_none (descriptor?_jam22) (memMode_jam22) s

/-! ### rlaIndX -/

@[simp] theorem descriptor?_rlaIndX (b : Byte) : (Instr.rlaIndX b).descriptor? =
    some ⟨.mRLA, .indexedIndirect, 2, 8, 0, .undocumented, .f2 .rlaIndX⟩ := by
  show Sys2Proof.descriptor? 0x23 = _
  rfl

@[simp] theorem memMode_rlaIndX (b : Byte) : memMode (Instr.rlaIndX b) = some (.indexedIndirect b) := by
  rw [memMode_of_row (descriptor?_rlaIndX b)]
  rfl


@[simp] theorem afterFrame_rlaIndX (b : Byte) (s : State) : afterFrame (Instr.rlaIndX b) s = s.advance 2 8 := by
  rw [afterFrame_of_mode (descriptor?_rlaIndX b) (memMode_rlaIndX b), frameCycles_zero]

/-! ### bitZp -/

@[simp] theorem descriptor?_bitZp (b : Byte) : (Instr.bitZp b).descriptor? =
    some ⟨.mBIT, .zeroPage, 2, 3, 0, .documented, .f2 .bitZp⟩ := by
  show Sys2Proof.descriptor? 0x24 = _
  rfl

@[simp] theorem memMode_bitZp (b : Byte) : memMode (Instr.bitZp b) = some (.zeroPage b) := by
  rw [memMode_of_row (descriptor?_bitZp b)]
  rfl


@[simp] theorem afterFrame_bitZp (b : Byte) (s : State) : afterFrame (Instr.bitZp b) s = s.advance 2 3 := by
  rw [afterFrame_of_mode (descriptor?_bitZp b) (memMode_bitZp b), frameCycles_zero]

/-! ### andZp -/

@[simp] theorem descriptor?_andZp (b : Byte) : (Instr.andZp b).descriptor? =
    some ⟨.mAND, .zeroPage, 2, 3, 0, .documented, .f2 .andZp⟩ := by
  show Sys2Proof.descriptor? 0x25 = _
  rfl

@[simp] theorem memMode_andZp (b : Byte) : memMode (Instr.andZp b) = some (.zeroPage b) := by
  rw [memMode_of_row (descriptor?_andZp b)]
  rfl


@[simp] theorem afterFrame_andZp (b : Byte) (s : State) : afterFrame (Instr.andZp b) s = s.advance 2 3 := by
  rw [afterFrame_of_mode (descriptor?_andZp b) (memMode_andZp b), frameCycles_zero]

/-! ### rolZp -/

@[simp] theorem descriptor?_rolZp (b : Byte) : (Instr.rolZp b).descriptor? =
    some ⟨.mROL, .zeroPage, 2, 5, 0, .documented, .f2 .rolZp⟩ := by
  show Sys2Proof.descriptor? 0x26 = _
  rfl

@[simp] theorem memMode_rolZp (b : Byte) : memMode (Instr.rolZp b) = some (.zeroPage b) := by
  rw [memMode_of_row (descriptor?_rolZp b)]
  rfl


@[simp] theorem afterFrame_rolZp (b : Byte) (s : State) : afterFrame (Instr.rolZp b) s = s.advance 2 5 := by
  rw [afterFrame_of_mode (descriptor?_rolZp b) (memMode_rolZp b), frameCycles_zero]

/-! ### rlaZp -/

@[simp] theorem descriptor?_rlaZp (b : Byte) : (Instr.rlaZp b).descriptor? =
    some ⟨.mRLA, .zeroPage, 2, 5, 0, .undocumented, .f2 .rlaZp⟩ := by
  show Sys2Proof.descriptor? 0x27 = _
  rfl

@[simp] theorem memMode_rlaZp (b : Byte) : memMode (Instr.rlaZp b) = some (.zeroPage b) := by
  rw [memMode_of_row (descriptor?_rlaZp b)]
  rfl


@[simp] theorem afterFrame_rlaZp (b : Byte) (s : State) : afterFrame (Instr.rlaZp b) s = s.advance 2 5 := by
  rw [afterFrame_of_mode (descriptor?_rlaZp b) (memMode_rlaZp b), frameCycles_zero]

/-! ### plp -/

@[simp] theorem descriptor?_plp : Instr.plp.descriptor? =
    some ⟨.mPLP, .implied, 1, 4, 0, .documented, .f1 .plp⟩ := by
  show Sys2Proof.descriptor? 0x28 = _
  rfl

@[simp] theorem memMode_plp : memMode Instr.plp = none := by
  rw [memMode_of_row (descriptor?_plp)]
  rfl

@[simp] theorem afterFrame_plp (s : State) : afterFrame Instr.plp s = s.advance 1 4 :=
  afterFrame_of_none (descriptor?_plp) (memMode_plp) s

/-! ### andImm -/

@[simp] theorem descriptor?_andImm (b : Byte) : (Instr.andImm b).descriptor? =
    some ⟨.mAND, .immediate, 2, 2, 0, .documented, .f2 .andImm⟩ := by
  show Sys2Proof.descriptor? 0x29 = _
  rfl

@[simp] theorem memMode_andImm (b : Byte) : memMode (Instr.andImm b) = none := by
  rw [memMode_of_row (descriptor?_andImm b)]
  rfl

@[simp] theorem afterFrame_andImm (b : Byte) (s : State) : afterFrame (Instr.andImm b) s = s.advance 2 2 :=
  afterFrame_of_none (descriptor?_andImm b) (memMode_andImm b) s

/-! ### rolAcc -/

@[simp] theorem descriptor?_rolAcc : Instr.rolAcc.descriptor? =
    some ⟨.mROL, .accumulator, 1, 2, 0, .documented, .f1 .rolAcc⟩ := by
  show Sys2Proof.descriptor? 0x2A = _
  rfl

@[simp] theorem memMode_rolAcc : memMode Instr.rolAcc = none := by
  rw [memMode_of_row (descriptor?_rolAcc)]
  rfl

@[simp] theorem afterFrame_rolAcc (s : State) : afterFrame Instr.rolAcc s = s.advance 1 2 :=
  afterFrame_of_none (descriptor?_rolAcc) (memMode_rolAcc) s

/-! ### ancImm2B -/

@[simp] theorem descriptor?_ancImm2B (b : Byte) : (Instr.ancImm2B b).descriptor? =
    some ⟨.mANC, .immediate, 2, 2, 0, .undocumented, .f2 .ancImm2B⟩ := by
  show Sys2Proof.descriptor? 0x2B = _
  rfl

@[simp] theorem memMode_ancImm2B (b : Byte) : memMode (Instr.ancImm2B b) = none := by
  rw [memMode_of_row (descriptor?_ancImm2B b)]
  rfl

@[simp] theorem afterFrame_ancImm2B (b : Byte) (s : State) : afterFrame (Instr.ancImm2B b) s = s.advance 2 2 :=
  afterFrame_of_none (descriptor?_ancImm2B b) (memMode_ancImm2B b) s

/-! ### bitAbs -/

@[simp] theorem descriptor?_bitAbs (w : Word) : (Instr.bitAbs w).descriptor? =
    some ⟨.mBIT, .absolute, 3, 4, 0, .documented, .f3 .bitAbs⟩ := by
  show Sys2Proof.descriptor? 0x2C = _
  rfl

@[simp] theorem memMode_bitAbs (w : Word) : memMode (Instr.bitAbs w) = some (.absolute w) := by
  rw [memMode_of_row (descriptor?_bitAbs w)]
  exact congrArg (fun a => some (AddrMode.absolute a)) (wordOf_high_low w)


@[simp] theorem afterFrame_bitAbs (w : Word) (s : State) : afterFrame (Instr.bitAbs w) s = s.advance 3 4 := by
  rw [afterFrame_of_mode (descriptor?_bitAbs w) (memMode_bitAbs w), frameCycles_zero]

/-! ### andAbs -/

@[simp] theorem descriptor?_andAbs (w : Word) : (Instr.andAbs w).descriptor? =
    some ⟨.mAND, .absolute, 3, 4, 0, .documented, .f3 .andAbs⟩ := by
  show Sys2Proof.descriptor? 0x2D = _
  rfl

@[simp] theorem memMode_andAbs (w : Word) : memMode (Instr.andAbs w) = some (.absolute w) := by
  rw [memMode_of_row (descriptor?_andAbs w)]
  exact congrArg (fun a => some (AddrMode.absolute a)) (wordOf_high_low w)


@[simp] theorem afterFrame_andAbs (w : Word) (s : State) : afterFrame (Instr.andAbs w) s = s.advance 3 4 := by
  rw [afterFrame_of_mode (descriptor?_andAbs w) (memMode_andAbs w), frameCycles_zero]

/-! ### rolAbs -/

@[simp] theorem descriptor?_rolAbs (w : Word) : (Instr.rolAbs w).descriptor? =
    some ⟨.mROL, .absolute, 3, 6, 0, .documented, .f3 .rolAbs⟩ := by
  show Sys2Proof.descriptor? 0x2E = _
  rfl

@[simp] theorem memMode_rolAbs (w : Word) : memMode (Instr.rolAbs w) = some (.absolute w) := by
  rw [memMode_of_row (descriptor?_rolAbs w)]
  exact congrArg (fun a => some (AddrMode.absolute a)) (wordOf_high_low w)


@[simp] theorem afterFrame_rolAbs (w : Word) (s : State) : afterFrame (Instr.rolAbs w) s = s.advance 3 6 := by
  rw [afterFrame_of_mode (descriptor?_rolAbs w) (memMode_rolAbs w), frameCycles_zero]

/-! ### rlaAbs -/

@[simp] theorem descriptor?_rlaAbs (w : Word) : (Instr.rlaAbs w).descriptor? =
    some ⟨.mRLA, .absolute, 3, 6, 0, .undocumented, .f3 .rlaAbs⟩ := by
  show Sys2Proof.descriptor? 0x2F = _
  rfl

@[simp] theorem memMode_rlaAbs (w : Word) : memMode (Instr.rlaAbs w) = some (.absolute w) := by
  rw [memMode_of_row (descriptor?_rlaAbs w)]
  exact congrArg (fun a => some (AddrMode.absolute a)) (wordOf_high_low w)


@[simp] theorem afterFrame_rlaAbs (w : Word) (s : State) : afterFrame (Instr.rlaAbs w) s = s.advance 3 6 := by
  rw [afterFrame_of_mode (descriptor?_rlaAbs w) (memMode_rlaAbs w), frameCycles_zero]

/-! ### bmi -/

@[simp] theorem descriptor?_bmi (off : Int) : (Instr.bmi off).descriptor? =
    some ⟨.mBMI, .relative, 2, 2, 0, .documented, .f2 fun b => .bmi b.toInt⟩ := by
  show Sys2Proof.descriptor? 0x30 = _
  rfl

@[simp] theorem memMode_bmi (off : Int) : memMode (Instr.bmi off) = none := by
  rw [memMode_of_row (descriptor?_bmi off)]
  rfl

@[simp] theorem afterFrame_bmi (off : Int) (s : State) : afterFrame (Instr.bmi off) s = s.advance 2 2 :=
  afterFrame_of_none (descriptor?_bmi off) (memMode_bmi off) s

/-! ### andIndY -/

@[simp] theorem descriptor?_andIndY (b : Byte) : (Instr.andIndY b).descriptor? =
    some ⟨.mAND, .indirectIndexed, 2, 5, 1, .documented, .f2 .andIndY⟩ := by
  show Sys2Proof.descriptor? 0x31 = _
  rfl

@[simp] theorem memMode_andIndY (b : Byte) : memMode (Instr.andIndY b) = some (.indirectIndexed b) := by
  rw [memMode_of_row (descriptor?_andIndY b)]
  rfl


@[simp] theorem afterFrame_andIndY (b : Byte) (s : State) : afterFrame (Instr.andIndY b) s =
    s.advance 2 (frameCycles 5 1 (resolve (.indirectIndexed b) s)) :=
  afterFrame_of_mode (descriptor?_andIndY b) (memMode_andIndY b) s

/-! ### jam32 -/

@[simp] theorem descriptor?_jam32 : Instr.jam32.descriptor? =
    some ⟨.mJAM, .implied, 1, 2, 0, .undocumented, .f1 .jam32⟩ := by
  show Sys2Proof.descriptor? 0x32 = _
  rfl

@[simp] theorem memMode_jam32 : memMode Instr.jam32 = none := by
  rw [memMode_of_row (descriptor?_jam32)]
  rfl

@[simp] theorem afterFrame_jam32 (s : State) : afterFrame Instr.jam32 s = s.advance 1 2 :=
  afterFrame_of_none (descriptor?_jam32) (memMode_jam32) s

/-! ### rlaIndY -/

@[simp] theorem descriptor?_rlaIndY (b : Byte) : (Instr.rlaIndY b).descriptor? =
    some ⟨.mRLA, .indirectIndexed, 2, 8, 0, .undocumented, .f2 .rlaIndY⟩ := by
  show Sys2Proof.descriptor? 0x33 = _
  rfl

@[simp] theorem memMode_rlaIndY (b : Byte) : memMode (Instr.rlaIndY b) = some (.indirectIndexed b) := by
  rw [memMode_of_row (descriptor?_rlaIndY b)]
  rfl


@[simp] theorem afterFrame_rlaIndY (b : Byte) (s : State) : afterFrame (Instr.rlaIndY b) s = s.advance 2 8 := by
  rw [afterFrame_of_mode (descriptor?_rlaIndY b) (memMode_rlaIndY b), frameCycles_zero]

/-! ### nopZpX34 -/

@[simp] theorem descriptor?_nopZpX34 (b : Byte) : (Instr.nopZpX34 b).descriptor? =
    some ⟨.mNOP, .zeroPageX, 2, 4, 0, .undocumented, .f2 .nopZpX34⟩ := by
  show Sys2Proof.descriptor? 0x34 = _
  rfl

@[simp] theorem memMode_nopZpX34 (b : Byte) : memMode (Instr.nopZpX34 b) = some (.zeroPageX b) := by
  rw [memMode_of_row (descriptor?_nopZpX34 b)]
  rfl


@[simp] theorem afterFrame_nopZpX34 (b : Byte) (s : State) : afterFrame (Instr.nopZpX34 b) s = s.advance 2 4 := by
  rw [afterFrame_of_mode (descriptor?_nopZpX34 b) (memMode_nopZpX34 b), frameCycles_zero]

/-! ### andZpX -/

@[simp] theorem descriptor?_andZpX (b : Byte) : (Instr.andZpX b).descriptor? =
    some ⟨.mAND, .zeroPageX, 2, 4, 0, .documented, .f2 .andZpX⟩ := by
  show Sys2Proof.descriptor? 0x35 = _
  rfl

@[simp] theorem memMode_andZpX (b : Byte) : memMode (Instr.andZpX b) = some (.zeroPageX b) := by
  rw [memMode_of_row (descriptor?_andZpX b)]
  rfl


@[simp] theorem afterFrame_andZpX (b : Byte) (s : State) : afterFrame (Instr.andZpX b) s = s.advance 2 4 := by
  rw [afterFrame_of_mode (descriptor?_andZpX b) (memMode_andZpX b), frameCycles_zero]

/-! ### rolZpX -/

@[simp] theorem descriptor?_rolZpX (b : Byte) : (Instr.rolZpX b).descriptor? =
    some ⟨.mROL, .zeroPageX, 2, 6, 0, .documented, .f2 .rolZpX⟩ := by
  show Sys2Proof.descriptor? 0x36 = _
  rfl

@[simp] theorem memMode_rolZpX (b : Byte) : memMode (Instr.rolZpX b) = some (.zeroPageX b) := by
  rw [memMode_of_row (descriptor?_rolZpX b)]
  rfl


@[simp] theorem afterFrame_rolZpX (b : Byte) (s : State) : afterFrame (Instr.rolZpX b) s = s.advance 2 6 := by
  rw [afterFrame_of_mode (descriptor?_rolZpX b) (memMode_rolZpX b), frameCycles_zero]

/-! ### rlaZpX -/

@[simp] theorem descriptor?_rlaZpX (b : Byte) : (Instr.rlaZpX b).descriptor? =
    some ⟨.mRLA, .zeroPageX, 2, 6, 0, .undocumented, .f2 .rlaZpX⟩ := by
  show Sys2Proof.descriptor? 0x37 = _
  rfl

@[simp] theorem memMode_rlaZpX (b : Byte) : memMode (Instr.rlaZpX b) = some (.zeroPageX b) := by
  rw [memMode_of_row (descriptor?_rlaZpX b)]
  rfl


@[simp] theorem afterFrame_rlaZpX (b : Byte) (s : State) : afterFrame (Instr.rlaZpX b) s = s.advance 2 6 := by
  rw [afterFrame_of_mode (descriptor?_rlaZpX b) (memMode_rlaZpX b), frameCycles_zero]

/-! ### sec -/

@[simp] theorem descriptor?_sec : Instr.sec.descriptor? =
    some ⟨.mSEC, .implied, 1, 2, 0, .documented, .f1 .sec⟩ := by
  show Sys2Proof.descriptor? 0x38 = _
  rfl

@[simp] theorem memMode_sec : memMode Instr.sec = none := by
  rw [memMode_of_row (descriptor?_sec)]
  rfl

@[simp] theorem afterFrame_sec (s : State) : afterFrame Instr.sec s = s.advance 1 2 :=
  afterFrame_of_none (descriptor?_sec) (memMode_sec) s

/-! ### andAbsY -/

@[simp] theorem descriptor?_andAbsY (w : Word) : (Instr.andAbsY w).descriptor? =
    some ⟨.mAND, .absoluteY, 3, 4, 1, .documented, .f3 .andAbsY⟩ := by
  show Sys2Proof.descriptor? 0x39 = _
  rfl

@[simp] theorem memMode_andAbsY (w : Word) : memMode (Instr.andAbsY w) = some (.absoluteY w) := by
  rw [memMode_of_row (descriptor?_andAbsY w)]
  exact congrArg (fun a => some (AddrMode.absoluteY a)) (wordOf_high_low w)


@[simp] theorem afterFrame_andAbsY (w : Word) (s : State) : afterFrame (Instr.andAbsY w) s =
    s.advance 3 (frameCycles 4 1 (resolve (.absoluteY w) s)) :=
  afterFrame_of_mode (descriptor?_andAbsY w) (memMode_andAbsY w) s

/-! ### nopImp3A -/

@[simp] theorem descriptor?_nopImp3A : Instr.nopImp3A.descriptor? =
    some ⟨.mNOP, .implied, 1, 2, 0, .undocumented, .f1 .nopImp3A⟩ := by
  show Sys2Proof.descriptor? 0x3A = _
  rfl

@[simp] theorem memMode_nopImp3A : memMode Instr.nopImp3A = none := by
  rw [memMode_of_row (descriptor?_nopImp3A)]
  rfl

@[simp] theorem afterFrame_nopImp3A (s : State) : afterFrame Instr.nopImp3A s = s.advance 1 2 :=
  afterFrame_of_none (descriptor?_nopImp3A) (memMode_nopImp3A) s

/-! ### rlaAbsY -/

@[simp] theorem descriptor?_rlaAbsY (w : Word) : (Instr.rlaAbsY w).descriptor? =
    some ⟨.mRLA, .absoluteY, 3, 7, 0, .undocumented, .f3 .rlaAbsY⟩ := by
  show Sys2Proof.descriptor? 0x3B = _
  rfl

@[simp] theorem memMode_rlaAbsY (w : Word) : memMode (Instr.rlaAbsY w) = some (.absoluteY w) := by
  rw [memMode_of_row (descriptor?_rlaAbsY w)]
  exact congrArg (fun a => some (AddrMode.absoluteY a)) (wordOf_high_low w)


@[simp] theorem afterFrame_rlaAbsY (w : Word) (s : State) : afterFrame (Instr.rlaAbsY w) s = s.advance 3 7 := by
  rw [afterFrame_of_mode (descriptor?_rlaAbsY w) (memMode_rlaAbsY w), frameCycles_zero]

/-! ### nopAbsX3C -/

@[simp] theorem descriptor?_nopAbsX3C (w : Word) : (Instr.nopAbsX3C w).descriptor? =
    some ⟨.mNOP, .absoluteX, 3, 4, 1, .undocumented, .f3 .nopAbsX3C⟩ := by
  show Sys2Proof.descriptor? 0x3C = _
  rfl

@[simp] theorem memMode_nopAbsX3C (w : Word) : memMode (Instr.nopAbsX3C w) = some (.absoluteX w) := by
  rw [memMode_of_row (descriptor?_nopAbsX3C w)]
  exact congrArg (fun a => some (AddrMode.absoluteX a)) (wordOf_high_low w)


@[simp] theorem afterFrame_nopAbsX3C (w : Word) (s : State) : afterFrame (Instr.nopAbsX3C w) s =
    s.advance 3 (frameCycles 4 1 (resolve (.absoluteX w) s)) :=
  afterFrame_of_mode (descriptor?_nopAbsX3C w) (memMode_nopAbsX3C w) s

/-! ### andAbsX -/

@[simp] theorem descriptor?_andAbsX (w : Word) : (Instr.andAbsX w).descriptor? =
    some ⟨.mAND, .absoluteX, 3, 4, 1, .documented, .f3 .andAbsX⟩ := by
  show Sys2Proof.descriptor? 0x3D = _
  rfl

@[simp] theorem memMode_andAbsX (w : Word) : memMode (Instr.andAbsX w) = some (.absoluteX w) := by
  rw [memMode_of_row (descriptor?_andAbsX w)]
  exact congrArg (fun a => some (AddrMode.absoluteX a)) (wordOf_high_low w)


@[simp] theorem afterFrame_andAbsX (w : Word) (s : State) : afterFrame (Instr.andAbsX w) s =
    s.advance 3 (frameCycles 4 1 (resolve (.absoluteX w) s)) :=
  afterFrame_of_mode (descriptor?_andAbsX w) (memMode_andAbsX w) s

/-! ### rolAbsX -/

@[simp] theorem descriptor?_rolAbsX (w : Word) : (Instr.rolAbsX w).descriptor? =
    some ⟨.mROL, .absoluteX, 3, 7, 0, .documented, .f3 .rolAbsX⟩ := by
  show Sys2Proof.descriptor? 0x3E = _
  rfl

@[simp] theorem memMode_rolAbsX (w : Word) : memMode (Instr.rolAbsX w) = some (.absoluteX w) := by
  rw [memMode_of_row (descriptor?_rolAbsX w)]
  exact congrArg (fun a => some (AddrMode.absoluteX a)) (wordOf_high_low w)


@[simp] theorem afterFrame_rolAbsX (w : Word) (s : State) : afterFrame (Instr.rolAbsX w) s = s.advance 3 7 := by
  rw [afterFrame_of_mode (descriptor?_rolAbsX w) (memMode_rolAbsX w), frameCycles_zero]

/-! ### rlaAbsX -/

@[simp] theorem descriptor?_rlaAbsX (w : Word) : (Instr.rlaAbsX w).descriptor? =
    some ⟨.mRLA, .absoluteX, 3, 7, 0, .undocumented, .f3 .rlaAbsX⟩ := by
  show Sys2Proof.descriptor? 0x3F = _
  rfl

@[simp] theorem memMode_rlaAbsX (w : Word) : memMode (Instr.rlaAbsX w) = some (.absoluteX w) := by
  rw [memMode_of_row (descriptor?_rlaAbsX w)]
  exact congrArg (fun a => some (AddrMode.absoluteX a)) (wordOf_high_low w)


@[simp] theorem afterFrame_rlaAbsX (w : Word) (s : State) : afterFrame (Instr.rlaAbsX w) s = s.advance 3 7 := by
  rw [afterFrame_of_mode (descriptor?_rlaAbsX w) (memMode_rlaAbsX w), frameCycles_zero]

/-! ### rti -/

@[simp] theorem descriptor?_rti : Instr.rti.descriptor? =
    some ⟨.mRTI, .implied, 1, 6, 0, .documented, .f1 .rti⟩ := by
  show Sys2Proof.descriptor? 0x40 = _
  rfl

@[simp] theorem memMode_rti : memMode Instr.rti = none := by
  rw [memMode_of_row (descriptor?_rti)]
  rfl

@[simp] theorem afterFrame_rti (s : State) : afterFrame Instr.rti s = s.advance 1 6 :=
  afterFrame_of_none (descriptor?_rti) (memMode_rti) s

/-! ### eorIndX -/

@[simp] theorem descriptor?_eorIndX (b : Byte) : (Instr.eorIndX b).descriptor? =
    some ⟨.mEOR, .indexedIndirect, 2, 6, 0, .documented, .f2 .eorIndX⟩ := by
  show Sys2Proof.descriptor? 0x41 = _
  rfl

@[simp] theorem memMode_eorIndX (b : Byte) : memMode (Instr.eorIndX b) = some (.indexedIndirect b) := by
  rw [memMode_of_row (descriptor?_eorIndX b)]
  rfl


@[simp] theorem afterFrame_eorIndX (b : Byte) (s : State) : afterFrame (Instr.eorIndX b) s = s.advance 2 6 := by
  rw [afterFrame_of_mode (descriptor?_eorIndX b) (memMode_eorIndX b), frameCycles_zero]

/-! ### jam42 -/

@[simp] theorem descriptor?_jam42 : Instr.jam42.descriptor? =
    some ⟨.mJAM, .implied, 1, 2, 0, .undocumented, .f1 .jam42⟩ := by
  show Sys2Proof.descriptor? 0x42 = _
  rfl

@[simp] theorem memMode_jam42 : memMode Instr.jam42 = none := by
  rw [memMode_of_row (descriptor?_jam42)]
  rfl

@[simp] theorem afterFrame_jam42 (s : State) : afterFrame Instr.jam42 s = s.advance 1 2 :=
  afterFrame_of_none (descriptor?_jam42) (memMode_jam42) s

/-! ### sreIndX -/

@[simp] theorem descriptor?_sreIndX (b : Byte) : (Instr.sreIndX b).descriptor? =
    some ⟨.mSRE, .indexedIndirect, 2, 8, 0, .undocumented, .f2 .sreIndX⟩ := by
  show Sys2Proof.descriptor? 0x43 = _
  rfl

@[simp] theorem memMode_sreIndX (b : Byte) : memMode (Instr.sreIndX b) = some (.indexedIndirect b) := by
  rw [memMode_of_row (descriptor?_sreIndX b)]
  rfl


@[simp] theorem afterFrame_sreIndX (b : Byte) (s : State) : afterFrame (Instr.sreIndX b) s = s.advance 2 8 := by
  rw [afterFrame_of_mode (descriptor?_sreIndX b) (memMode_sreIndX b), frameCycles_zero]

/-! ### nopZp44 -/

@[simp] theorem descriptor?_nopZp44 (b : Byte) : (Instr.nopZp44 b).descriptor? =
    some ⟨.mNOP, .zeroPage, 2, 3, 0, .undocumented, .f2 .nopZp44⟩ := by
  show Sys2Proof.descriptor? 0x44 = _
  rfl

@[simp] theorem memMode_nopZp44 (b : Byte) : memMode (Instr.nopZp44 b) = some (.zeroPage b) := by
  rw [memMode_of_row (descriptor?_nopZp44 b)]
  rfl


@[simp] theorem afterFrame_nopZp44 (b : Byte) (s : State) : afterFrame (Instr.nopZp44 b) s = s.advance 2 3 := by
  rw [afterFrame_of_mode (descriptor?_nopZp44 b) (memMode_nopZp44 b), frameCycles_zero]

/-! ### eorZp -/

@[simp] theorem descriptor?_eorZp (b : Byte) : (Instr.eorZp b).descriptor? =
    some ⟨.mEOR, .zeroPage, 2, 3, 0, .documented, .f2 .eorZp⟩ := by
  show Sys2Proof.descriptor? 0x45 = _
  rfl

@[simp] theorem memMode_eorZp (b : Byte) : memMode (Instr.eorZp b) = some (.zeroPage b) := by
  rw [memMode_of_row (descriptor?_eorZp b)]
  rfl


@[simp] theorem afterFrame_eorZp (b : Byte) (s : State) : afterFrame (Instr.eorZp b) s = s.advance 2 3 := by
  rw [afterFrame_of_mode (descriptor?_eorZp b) (memMode_eorZp b), frameCycles_zero]

/-! ### lsrZp -/

@[simp] theorem descriptor?_lsrZp (b : Byte) : (Instr.lsrZp b).descriptor? =
    some ⟨.mLSR, .zeroPage, 2, 5, 0, .documented, .f2 .lsrZp⟩ := by
  show Sys2Proof.descriptor? 0x46 = _
  rfl

@[simp] theorem memMode_lsrZp (b : Byte) : memMode (Instr.lsrZp b) = some (.zeroPage b) := by
  rw [memMode_of_row (descriptor?_lsrZp b)]
  rfl


@[simp] theorem afterFrame_lsrZp (b : Byte) (s : State) : afterFrame (Instr.lsrZp b) s = s.advance 2 5 := by
  rw [afterFrame_of_mode (descriptor?_lsrZp b) (memMode_lsrZp b), frameCycles_zero]

/-! ### sreZp -/

@[simp] theorem descriptor?_sreZp (b : Byte) : (Instr.sreZp b).descriptor? =
    some ⟨.mSRE, .zeroPage, 2, 5, 0, .undocumented, .f2 .sreZp⟩ := by
  show Sys2Proof.descriptor? 0x47 = _
  rfl

@[simp] theorem memMode_sreZp (b : Byte) : memMode (Instr.sreZp b) = some (.zeroPage b) := by
  rw [memMode_of_row (descriptor?_sreZp b)]
  rfl


@[simp] theorem afterFrame_sreZp (b : Byte) (s : State) : afterFrame (Instr.sreZp b) s = s.advance 2 5 := by
  rw [afterFrame_of_mode (descriptor?_sreZp b) (memMode_sreZp b), frameCycles_zero]

/-! ### pha -/

@[simp] theorem descriptor?_pha : Instr.pha.descriptor? =
    some ⟨.mPHA, .implied, 1, 3, 0, .documented, .f1 .pha⟩ := by
  show Sys2Proof.descriptor? 0x48 = _
  rfl

@[simp] theorem memMode_pha : memMode Instr.pha = none := by
  rw [memMode_of_row (descriptor?_pha)]
  rfl

@[simp] theorem afterFrame_pha (s : State) : afterFrame Instr.pha s = s.advance 1 3 :=
  afterFrame_of_none (descriptor?_pha) (memMode_pha) s

/-! ### eorImm -/

@[simp] theorem descriptor?_eorImm (b : Byte) : (Instr.eorImm b).descriptor? =
    some ⟨.mEOR, .immediate, 2, 2, 0, .documented, .f2 .eorImm⟩ := by
  show Sys2Proof.descriptor? 0x49 = _
  rfl

@[simp] theorem memMode_eorImm (b : Byte) : memMode (Instr.eorImm b) = none := by
  rw [memMode_of_row (descriptor?_eorImm b)]
  rfl

@[simp] theorem afterFrame_eorImm (b : Byte) (s : State) : afterFrame (Instr.eorImm b) s = s.advance 2 2 :=
  afterFrame_of_none (descriptor?_eorImm b) (memMode_eorImm b) s

/-! ### lsrAcc -/

@[simp] theorem descriptor?_lsrAcc : Instr.lsrAcc.descriptor? =
    some ⟨.mLSR, .accumulator, 1, 2, 0, .documented, .f1 .lsrAcc⟩ := by
  show Sys2Proof.descriptor? 0x4A = _
  rfl

@[simp] theorem memMode_lsrAcc : memMode Instr.lsrAcc = none := by
  rw [memMode_of_row (descriptor?_lsrAcc)]
  rfl

@[simp] theorem afterFrame_lsrAcc (s : State) : afterFrame Instr.lsrAcc s = s.advance 1 2 :=
  afterFrame_of_none (descriptor?_lsrAcc) (memMode_lsrAcc) s

/-! ### alrImm -/

@[simp] theorem descriptor?_alrImm (b : Byte) : (Instr.alrImm b).descriptor? =
    some ⟨.mALR, .immediate, 2, 2, 0, .undocumented, .f2 .alrImm⟩ := by
  show Sys2Proof.descriptor? 0x4B = _
  rfl

@[simp] theorem memMode_alrImm (b : Byte) : memMode (Instr.alrImm b) = none := by
  rw [memMode_of_row (descriptor?_alrImm b)]
  rfl

@[simp] theorem afterFrame_alrImm (b : Byte) (s : State) : afterFrame (Instr.alrImm b) s = s.advance 2 2 :=
  afterFrame_of_none (descriptor?_alrImm b) (memMode_alrImm b) s

/-! ### jmpAbs -/

@[simp] theorem descriptor?_jmpAbs (w : Word) : (Instr.jmpAbs w).descriptor? =
    some ⟨.mJMP, .absolute, 3, 3, 0, .documented, .f3 .jmpAbs⟩ := by
  show Sys2Proof.descriptor? 0x4C = _
  rfl

@[simp] theorem memMode_jmpAbs (w : Word) : memMode (Instr.jmpAbs w) = some (.absolute w) := by
  rw [memMode_of_row (descriptor?_jmpAbs w)]
  exact congrArg (fun a => some (AddrMode.absolute a)) (wordOf_high_low w)


@[simp] theorem afterFrame_jmpAbs (w : Word) (s : State) : afterFrame (Instr.jmpAbs w) s = s.advance 3 3 := by
  rw [afterFrame_of_mode (descriptor?_jmpAbs w) (memMode_jmpAbs w), frameCycles_zero]

/-! ### eorAbs -/

@[simp] theorem descriptor?_eorAbs (w : Word) : (Instr.eorAbs w).descriptor? =
    some ⟨.mEOR, .absolute, 3, 4, 0, .documented, .f3 .eorAbs⟩ := by
  show Sys2Proof.descriptor? 0x4D = _
  rfl

@[simp] theorem memMode_eorAbs (w : Word) : memMode (Instr.eorAbs w) = some (.absolute w) := by
  rw [memMode_of_row (descriptor?_eorAbs w)]
  exact congrArg (fun a => some (AddrMode.absolute a)) (wordOf_high_low w)


@[simp] theorem afterFrame_eorAbs (w : Word) (s : State) : afterFrame (Instr.eorAbs w) s = s.advance 3 4 := by
  rw [afterFrame_of_mode (descriptor?_eorAbs w) (memMode_eorAbs w), frameCycles_zero]

/-! ### lsrAbs -/

@[simp] theorem descriptor?_lsrAbs (w : Word) : (Instr.lsrAbs w).descriptor? =
    some ⟨.mLSR, .absolute, 3, 6, 0, .documented, .f3 .lsrAbs⟩ := by
  show Sys2Proof.descriptor? 0x4E = _
  rfl

@[simp] theorem memMode_lsrAbs (w : Word) : memMode (Instr.lsrAbs w) = some (.absolute w) := by
  rw [memMode_of_row (descriptor?_lsrAbs w)]
  exact congrArg (fun a => some (AddrMode.absolute a)) (wordOf_high_low w)


@[simp] theorem afterFrame_lsrAbs (w : Word) (s : State) : afterFrame (Instr.lsrAbs w) s = s.advance 3 6 := by
  rw [afterFrame_of_mode (descriptor?_lsrAbs w) (memMode_lsrAbs w), frameCycles_zero]

/-! ### sreAbs -/

@[simp] theorem descriptor?_sreAbs (w : Word) : (Instr.sreAbs w).descriptor? =
    some ⟨.mSRE, .absolute, 3, 6, 0, .undocumented, .f3 .sreAbs⟩ := by
  show Sys2Proof.descriptor? 0x4F = _
  rfl

@[simp] theorem memMode_sreAbs (w : Word) : memMode (Instr.sreAbs w) = some (.absolute w) := by
  rw [memMode_of_row (descriptor?_sreAbs w)]
  exact congrArg (fun a => some (AddrMode.absolute a)) (wordOf_high_low w)


@[simp] theorem afterFrame_sreAbs (w : Word) (s : State) : afterFrame (Instr.sreAbs w) s = s.advance 3 6 := by
  rw [afterFrame_of_mode (descriptor?_sreAbs w) (memMode_sreAbs w), frameCycles_zero]

/-! ### bvc -/

@[simp] theorem descriptor?_bvc (off : Int) : (Instr.bvc off).descriptor? =
    some ⟨.mBVC, .relative, 2, 2, 0, .documented, .f2 fun b => .bvc b.toInt⟩ := by
  show Sys2Proof.descriptor? 0x50 = _
  rfl

@[simp] theorem memMode_bvc (off : Int) : memMode (Instr.bvc off) = none := by
  rw [memMode_of_row (descriptor?_bvc off)]
  rfl

@[simp] theorem afterFrame_bvc (off : Int) (s : State) : afterFrame (Instr.bvc off) s = s.advance 2 2 :=
  afterFrame_of_none (descriptor?_bvc off) (memMode_bvc off) s

/-! ### eorIndY -/

@[simp] theorem descriptor?_eorIndY (b : Byte) : (Instr.eorIndY b).descriptor? =
    some ⟨.mEOR, .indirectIndexed, 2, 5, 1, .documented, .f2 .eorIndY⟩ := by
  show Sys2Proof.descriptor? 0x51 = _
  rfl

@[simp] theorem memMode_eorIndY (b : Byte) : memMode (Instr.eorIndY b) = some (.indirectIndexed b) := by
  rw [memMode_of_row (descriptor?_eorIndY b)]
  rfl


@[simp] theorem afterFrame_eorIndY (b : Byte) (s : State) : afterFrame (Instr.eorIndY b) s =
    s.advance 2 (frameCycles 5 1 (resolve (.indirectIndexed b) s)) :=
  afterFrame_of_mode (descriptor?_eorIndY b) (memMode_eorIndY b) s

/-! ### jam52 -/

@[simp] theorem descriptor?_jam52 : Instr.jam52.descriptor? =
    some ⟨.mJAM, .implied, 1, 2, 0, .undocumented, .f1 .jam52⟩ := by
  show Sys2Proof.descriptor? 0x52 = _
  rfl

@[simp] theorem memMode_jam52 : memMode Instr.jam52 = none := by
  rw [memMode_of_row (descriptor?_jam52)]
  rfl

@[simp] theorem afterFrame_jam52 (s : State) : afterFrame Instr.jam52 s = s.advance 1 2 :=
  afterFrame_of_none (descriptor?_jam52) (memMode_jam52) s

/-! ### sreIndY -/

@[simp] theorem descriptor?_sreIndY (b : Byte) : (Instr.sreIndY b).descriptor? =
    some ⟨.mSRE, .indirectIndexed, 2, 8, 0, .undocumented, .f2 .sreIndY⟩ := by
  show Sys2Proof.descriptor? 0x53 = _
  rfl

@[simp] theorem memMode_sreIndY (b : Byte) : memMode (Instr.sreIndY b) = some (.indirectIndexed b) := by
  rw [memMode_of_row (descriptor?_sreIndY b)]
  rfl


@[simp] theorem afterFrame_sreIndY (b : Byte) (s : State) : afterFrame (Instr.sreIndY b) s = s.advance 2 8 := by
  rw [afterFrame_of_mode (descriptor?_sreIndY b) (memMode_sreIndY b), frameCycles_zero]

/-! ### nopZpX54 -/

@[simp] theorem descriptor?_nopZpX54 (b : Byte) : (Instr.nopZpX54 b).descriptor? =
    some ⟨.mNOP, .zeroPageX, 2, 4, 0, .undocumented, .f2 .nopZpX54⟩ := by
  show Sys2Proof.descriptor? 0x54 = _
  rfl

@[simp] theorem memMode_nopZpX54 (b : Byte) : memMode (Instr.nopZpX54 b) = some (.zeroPageX b) := by
  rw [memMode_of_row (descriptor?_nopZpX54 b)]
  rfl


@[simp] theorem afterFrame_nopZpX54 (b : Byte) (s : State) : afterFrame (Instr.nopZpX54 b) s = s.advance 2 4 := by
  rw [afterFrame_of_mode (descriptor?_nopZpX54 b) (memMode_nopZpX54 b), frameCycles_zero]

/-! ### eorZpX -/

@[simp] theorem descriptor?_eorZpX (b : Byte) : (Instr.eorZpX b).descriptor? =
    some ⟨.mEOR, .zeroPageX, 2, 4, 0, .documented, .f2 .eorZpX⟩ := by
  show Sys2Proof.descriptor? 0x55 = _
  rfl

@[simp] theorem memMode_eorZpX (b : Byte) : memMode (Instr.eorZpX b) = some (.zeroPageX b) := by
  rw [memMode_of_row (descriptor?_eorZpX b)]
  rfl


@[simp] theorem afterFrame_eorZpX (b : Byte) (s : State) : afterFrame (Instr.eorZpX b) s = s.advance 2 4 := by
  rw [afterFrame_of_mode (descriptor?_eorZpX b) (memMode_eorZpX b), frameCycles_zero]

/-! ### lsrZpX -/

@[simp] theorem descriptor?_lsrZpX (b : Byte) : (Instr.lsrZpX b).descriptor? =
    some ⟨.mLSR, .zeroPageX, 2, 6, 0, .documented, .f2 .lsrZpX⟩ := by
  show Sys2Proof.descriptor? 0x56 = _
  rfl

@[simp] theorem memMode_lsrZpX (b : Byte) : memMode (Instr.lsrZpX b) = some (.zeroPageX b) := by
  rw [memMode_of_row (descriptor?_lsrZpX b)]
  rfl


@[simp] theorem afterFrame_lsrZpX (b : Byte) (s : State) : afterFrame (Instr.lsrZpX b) s = s.advance 2 6 := by
  rw [afterFrame_of_mode (descriptor?_lsrZpX b) (memMode_lsrZpX b), frameCycles_zero]

/-! ### sreZpX -/

@[simp] theorem descriptor?_sreZpX (b : Byte) : (Instr.sreZpX b).descriptor? =
    some ⟨.mSRE, .zeroPageX, 2, 6, 0, .undocumented, .f2 .sreZpX⟩ := by
  show Sys2Proof.descriptor? 0x57 = _
  rfl

@[simp] theorem memMode_sreZpX (b : Byte) : memMode (Instr.sreZpX b) = some (.zeroPageX b) := by
  rw [memMode_of_row (descriptor?_sreZpX b)]
  rfl


@[simp] theorem afterFrame_sreZpX (b : Byte) (s : State) : afterFrame (Instr.sreZpX b) s = s.advance 2 6 := by
  rw [afterFrame_of_mode (descriptor?_sreZpX b) (memMode_sreZpX b), frameCycles_zero]

/-! ### cli -/

@[simp] theorem descriptor?_cli : Instr.cli.descriptor? =
    some ⟨.mCLI, .implied, 1, 2, 0, .documented, .f1 .cli⟩ := by
  show Sys2Proof.descriptor? 0x58 = _
  rfl

@[simp] theorem memMode_cli : memMode Instr.cli = none := by
  rw [memMode_of_row (descriptor?_cli)]
  rfl

@[simp] theorem afterFrame_cli (s : State) : afterFrame Instr.cli s = s.advance 1 2 :=
  afterFrame_of_none (descriptor?_cli) (memMode_cli) s

/-! ### eorAbsY -/

@[simp] theorem descriptor?_eorAbsY (w : Word) : (Instr.eorAbsY w).descriptor? =
    some ⟨.mEOR, .absoluteY, 3, 4, 1, .documented, .f3 .eorAbsY⟩ := by
  show Sys2Proof.descriptor? 0x59 = _
  rfl

@[simp] theorem memMode_eorAbsY (w : Word) : memMode (Instr.eorAbsY w) = some (.absoluteY w) := by
  rw [memMode_of_row (descriptor?_eorAbsY w)]
  exact congrArg (fun a => some (AddrMode.absoluteY a)) (wordOf_high_low w)


@[simp] theorem afterFrame_eorAbsY (w : Word) (s : State) : afterFrame (Instr.eorAbsY w) s =
    s.advance 3 (frameCycles 4 1 (resolve (.absoluteY w) s)) :=
  afterFrame_of_mode (descriptor?_eorAbsY w) (memMode_eorAbsY w) s

/-! ### nopImp5A -/

@[simp] theorem descriptor?_nopImp5A : Instr.nopImp5A.descriptor? =
    some ⟨.mNOP, .implied, 1, 2, 0, .undocumented, .f1 .nopImp5A⟩ := by
  show Sys2Proof.descriptor? 0x5A = _
  rfl

@[simp] theorem memMode_nopImp5A : memMode Instr.nopImp5A = none := by
  rw [memMode_of_row (descriptor?_nopImp5A)]
  rfl

@[simp] theorem afterFrame_nopImp5A (s : State) : afterFrame Instr.nopImp5A s = s.advance 1 2 :=
  afterFrame_of_none (descriptor?_nopImp5A) (memMode_nopImp5A) s

/-! ### sreAbsY -/

@[simp] theorem descriptor?_sreAbsY (w : Word) : (Instr.sreAbsY w).descriptor? =
    some ⟨.mSRE, .absoluteY, 3, 7, 0, .undocumented, .f3 .sreAbsY⟩ := by
  show Sys2Proof.descriptor? 0x5B = _
  rfl

@[simp] theorem memMode_sreAbsY (w : Word) : memMode (Instr.sreAbsY w) = some (.absoluteY w) := by
  rw [memMode_of_row (descriptor?_sreAbsY w)]
  exact congrArg (fun a => some (AddrMode.absoluteY a)) (wordOf_high_low w)


@[simp] theorem afterFrame_sreAbsY (w : Word) (s : State) : afterFrame (Instr.sreAbsY w) s = s.advance 3 7 := by
  rw [afterFrame_of_mode (descriptor?_sreAbsY w) (memMode_sreAbsY w), frameCycles_zero]

/-! ### nopAbsX5C -/

@[simp] theorem descriptor?_nopAbsX5C (w : Word) : (Instr.nopAbsX5C w).descriptor? =
    some ⟨.mNOP, .absoluteX, 3, 4, 1, .undocumented, .f3 .nopAbsX5C⟩ := by
  show Sys2Proof.descriptor? 0x5C = _
  rfl

@[simp] theorem memMode_nopAbsX5C (w : Word) : memMode (Instr.nopAbsX5C w) = some (.absoluteX w) := by
  rw [memMode_of_row (descriptor?_nopAbsX5C w)]
  exact congrArg (fun a => some (AddrMode.absoluteX a)) (wordOf_high_low w)


@[simp] theorem afterFrame_nopAbsX5C (w : Word) (s : State) : afterFrame (Instr.nopAbsX5C w) s =
    s.advance 3 (frameCycles 4 1 (resolve (.absoluteX w) s)) :=
  afterFrame_of_mode (descriptor?_nopAbsX5C w) (memMode_nopAbsX5C w) s

/-! ### eorAbsX -/

@[simp] theorem descriptor?_eorAbsX (w : Word) : (Instr.eorAbsX w).descriptor? =
    some ⟨.mEOR, .absoluteX, 3, 4, 1, .documented, .f3 .eorAbsX⟩ := by
  show Sys2Proof.descriptor? 0x5D = _
  rfl

@[simp] theorem memMode_eorAbsX (w : Word) : memMode (Instr.eorAbsX w) = some (.absoluteX w) := by
  rw [memMode_of_row (descriptor?_eorAbsX w)]
  exact congrArg (fun a => some (AddrMode.absoluteX a)) (wordOf_high_low w)


@[simp] theorem afterFrame_eorAbsX (w : Word) (s : State) : afterFrame (Instr.eorAbsX w) s =
    s.advance 3 (frameCycles 4 1 (resolve (.absoluteX w) s)) :=
  afterFrame_of_mode (descriptor?_eorAbsX w) (memMode_eorAbsX w) s

/-! ### lsrAbsX -/

@[simp] theorem descriptor?_lsrAbsX (w : Word) : (Instr.lsrAbsX w).descriptor? =
    some ⟨.mLSR, .absoluteX, 3, 7, 0, .documented, .f3 .lsrAbsX⟩ := by
  show Sys2Proof.descriptor? 0x5E = _
  rfl

@[simp] theorem memMode_lsrAbsX (w : Word) : memMode (Instr.lsrAbsX w) = some (.absoluteX w) := by
  rw [memMode_of_row (descriptor?_lsrAbsX w)]
  exact congrArg (fun a => some (AddrMode.absoluteX a)) (wordOf_high_low w)


@[simp] theorem afterFrame_lsrAbsX (w : Word) (s : State) : afterFrame (Instr.lsrAbsX w) s = s.advance 3 7 := by
  rw [afterFrame_of_mode (descriptor?_lsrAbsX w) (memMode_lsrAbsX w), frameCycles_zero]

/-! ### sreAbsX -/

@[simp] theorem descriptor?_sreAbsX (w : Word) : (Instr.sreAbsX w).descriptor? =
    some ⟨.mSRE, .absoluteX, 3, 7, 0, .undocumented, .f3 .sreAbsX⟩ := by
  show Sys2Proof.descriptor? 0x5F = _
  rfl

@[simp] theorem memMode_sreAbsX (w : Word) : memMode (Instr.sreAbsX w) = some (.absoluteX w) := by
  rw [memMode_of_row (descriptor?_sreAbsX w)]
  exact congrArg (fun a => some (AddrMode.absoluteX a)) (wordOf_high_low w)


@[simp] theorem afterFrame_sreAbsX (w : Word) (s : State) : afterFrame (Instr.sreAbsX w) s = s.advance 3 7 := by
  rw [afterFrame_of_mode (descriptor?_sreAbsX w) (memMode_sreAbsX w), frameCycles_zero]

/-! ### rts -/

@[simp] theorem descriptor?_rts : Instr.rts.descriptor? =
    some ⟨.mRTS, .implied, 1, 6, 0, .documented, .f1 .rts⟩ := by
  show Sys2Proof.descriptor? 0x60 = _
  rfl

@[simp] theorem memMode_rts : memMode Instr.rts = none := by
  rw [memMode_of_row (descriptor?_rts)]
  rfl

@[simp] theorem afterFrame_rts (s : State) : afterFrame Instr.rts s = s.advance 1 6 :=
  afterFrame_of_none (descriptor?_rts) (memMode_rts) s

/-! ### adcIndX -/

@[simp] theorem descriptor?_adcIndX (b : Byte) : (Instr.adcIndX b).descriptor? =
    some ⟨.mADC, .indexedIndirect, 2, 6, 0, .documented, .f2 .adcIndX⟩ := by
  show Sys2Proof.descriptor? 0x61 = _
  rfl

@[simp] theorem memMode_adcIndX (b : Byte) : memMode (Instr.adcIndX b) = some (.indexedIndirect b) := by
  rw [memMode_of_row (descriptor?_adcIndX b)]
  rfl


@[simp] theorem afterFrame_adcIndX (b : Byte) (s : State) : afterFrame (Instr.adcIndX b) s = s.advance 2 6 := by
  rw [afterFrame_of_mode (descriptor?_adcIndX b) (memMode_adcIndX b), frameCycles_zero]

/-! ### jam62 -/

@[simp] theorem descriptor?_jam62 : Instr.jam62.descriptor? =
    some ⟨.mJAM, .implied, 1, 2, 0, .undocumented, .f1 .jam62⟩ := by
  show Sys2Proof.descriptor? 0x62 = _
  rfl

@[simp] theorem memMode_jam62 : memMode Instr.jam62 = none := by
  rw [memMode_of_row (descriptor?_jam62)]
  rfl

@[simp] theorem afterFrame_jam62 (s : State) : afterFrame Instr.jam62 s = s.advance 1 2 :=
  afterFrame_of_none (descriptor?_jam62) (memMode_jam62) s

/-! ### rraIndX -/

@[simp] theorem descriptor?_rraIndX (b : Byte) : (Instr.rraIndX b).descriptor? =
    some ⟨.mRRA, .indexedIndirect, 2, 8, 0, .undocumented, .f2 .rraIndX⟩ := by
  show Sys2Proof.descriptor? 0x63 = _
  rfl

@[simp] theorem memMode_rraIndX (b : Byte) : memMode (Instr.rraIndX b) = some (.indexedIndirect b) := by
  rw [memMode_of_row (descriptor?_rraIndX b)]
  rfl


@[simp] theorem afterFrame_rraIndX (b : Byte) (s : State) : afterFrame (Instr.rraIndX b) s = s.advance 2 8 := by
  rw [afterFrame_of_mode (descriptor?_rraIndX b) (memMode_rraIndX b), frameCycles_zero]

/-! ### nopZp64 -/

@[simp] theorem descriptor?_nopZp64 (b : Byte) : (Instr.nopZp64 b).descriptor? =
    some ⟨.mNOP, .zeroPage, 2, 3, 0, .undocumented, .f2 .nopZp64⟩ := by
  show Sys2Proof.descriptor? 0x64 = _
  rfl

@[simp] theorem memMode_nopZp64 (b : Byte) : memMode (Instr.nopZp64 b) = some (.zeroPage b) := by
  rw [memMode_of_row (descriptor?_nopZp64 b)]
  rfl


@[simp] theorem afterFrame_nopZp64 (b : Byte) (s : State) : afterFrame (Instr.nopZp64 b) s = s.advance 2 3 := by
  rw [afterFrame_of_mode (descriptor?_nopZp64 b) (memMode_nopZp64 b), frameCycles_zero]

/-! ### adcZp -/

@[simp] theorem descriptor?_adcZp (b : Byte) : (Instr.adcZp b).descriptor? =
    some ⟨.mADC, .zeroPage, 2, 3, 0, .documented, .f2 .adcZp⟩ := by
  show Sys2Proof.descriptor? 0x65 = _
  rfl

@[simp] theorem memMode_adcZp (b : Byte) : memMode (Instr.adcZp b) = some (.zeroPage b) := by
  rw [memMode_of_row (descriptor?_adcZp b)]
  rfl


@[simp] theorem afterFrame_adcZp (b : Byte) (s : State) : afterFrame (Instr.adcZp b) s = s.advance 2 3 := by
  rw [afterFrame_of_mode (descriptor?_adcZp b) (memMode_adcZp b), frameCycles_zero]

/-! ### rorZp -/

@[simp] theorem descriptor?_rorZp (b : Byte) : (Instr.rorZp b).descriptor? =
    some ⟨.mROR, .zeroPage, 2, 5, 0, .documented, .f2 .rorZp⟩ := by
  show Sys2Proof.descriptor? 0x66 = _
  rfl

@[simp] theorem memMode_rorZp (b : Byte) : memMode (Instr.rorZp b) = some (.zeroPage b) := by
  rw [memMode_of_row (descriptor?_rorZp b)]
  rfl


@[simp] theorem afterFrame_rorZp (b : Byte) (s : State) : afterFrame (Instr.rorZp b) s = s.advance 2 5 := by
  rw [afterFrame_of_mode (descriptor?_rorZp b) (memMode_rorZp b), frameCycles_zero]

/-! ### rraZp -/

@[simp] theorem descriptor?_rraZp (b : Byte) : (Instr.rraZp b).descriptor? =
    some ⟨.mRRA, .zeroPage, 2, 5, 0, .undocumented, .f2 .rraZp⟩ := by
  show Sys2Proof.descriptor? 0x67 = _
  rfl

@[simp] theorem memMode_rraZp (b : Byte) : memMode (Instr.rraZp b) = some (.zeroPage b) := by
  rw [memMode_of_row (descriptor?_rraZp b)]
  rfl


@[simp] theorem afterFrame_rraZp (b : Byte) (s : State) : afterFrame (Instr.rraZp b) s = s.advance 2 5 := by
  rw [afterFrame_of_mode (descriptor?_rraZp b) (memMode_rraZp b), frameCycles_zero]

/-! ### pla -/

@[simp] theorem descriptor?_pla : Instr.pla.descriptor? =
    some ⟨.mPLA, .implied, 1, 4, 0, .documented, .f1 .pla⟩ := by
  show Sys2Proof.descriptor? 0x68 = _
  rfl

@[simp] theorem memMode_pla : memMode Instr.pla = none := by
  rw [memMode_of_row (descriptor?_pla)]
  rfl

@[simp] theorem afterFrame_pla (s : State) : afterFrame Instr.pla s = s.advance 1 4 :=
  afterFrame_of_none (descriptor?_pla) (memMode_pla) s

/-! ### adcImm -/

@[simp] theorem descriptor?_adcImm (b : Byte) : (Instr.adcImm b).descriptor? =
    some ⟨.mADC, .immediate, 2, 2, 0, .documented, .f2 .adcImm⟩ := by
  show Sys2Proof.descriptor? 0x69 = _
  rfl

@[simp] theorem memMode_adcImm (b : Byte) : memMode (Instr.adcImm b) = none := by
  rw [memMode_of_row (descriptor?_adcImm b)]
  rfl

@[simp] theorem afterFrame_adcImm (b : Byte) (s : State) : afterFrame (Instr.adcImm b) s = s.advance 2 2 :=
  afterFrame_of_none (descriptor?_adcImm b) (memMode_adcImm b) s

/-! ### rorAcc -/

@[simp] theorem descriptor?_rorAcc : Instr.rorAcc.descriptor? =
    some ⟨.mROR, .accumulator, 1, 2, 0, .documented, .f1 .rorAcc⟩ := by
  show Sys2Proof.descriptor? 0x6A = _
  rfl

@[simp] theorem memMode_rorAcc : memMode Instr.rorAcc = none := by
  rw [memMode_of_row (descriptor?_rorAcc)]
  rfl

@[simp] theorem afterFrame_rorAcc (s : State) : afterFrame Instr.rorAcc s = s.advance 1 2 :=
  afterFrame_of_none (descriptor?_rorAcc) (memMode_rorAcc) s

/-! ### arrImm -/

@[simp] theorem descriptor?_arrImm (b : Byte) : (Instr.arrImm b).descriptor? =
    some ⟨.mARR, .immediate, 2, 2, 0, .undocumented, .f2 .arrImm⟩ := by
  show Sys2Proof.descriptor? 0x6B = _
  rfl

@[simp] theorem memMode_arrImm (b : Byte) : memMode (Instr.arrImm b) = none := by
  rw [memMode_of_row (descriptor?_arrImm b)]
  rfl

@[simp] theorem afterFrame_arrImm (b : Byte) (s : State) : afterFrame (Instr.arrImm b) s = s.advance 2 2 :=
  afterFrame_of_none (descriptor?_arrImm b) (memMode_arrImm b) s

/-! ### jmpInd -/

@[simp] theorem descriptor?_jmpInd (w : Word) : (Instr.jmpInd w).descriptor? =
    some ⟨.mJMP, .indirect, 3, 5, 0, .documented, .f3 .jmpInd⟩ := by
  show Sys2Proof.descriptor? 0x6C = _
  rfl

@[simp] theorem memMode_jmpInd (w : Word) : memMode (Instr.jmpInd w) = none := by
  rw [memMode_of_row (descriptor?_jmpInd w)]
  rfl

@[simp] theorem afterFrame_jmpInd (w : Word) (s : State) : afterFrame (Instr.jmpInd w) s = s.advance 3 5 :=
  afterFrame_of_none (descriptor?_jmpInd w) (memMode_jmpInd w) s

/-! ### adcAbs -/

@[simp] theorem descriptor?_adcAbs (w : Word) : (Instr.adcAbs w).descriptor? =
    some ⟨.mADC, .absolute, 3, 4, 0, .documented, .f3 .adcAbs⟩ := by
  show Sys2Proof.descriptor? 0x6D = _
  rfl

@[simp] theorem memMode_adcAbs (w : Word) : memMode (Instr.adcAbs w) = some (.absolute w) := by
  rw [memMode_of_row (descriptor?_adcAbs w)]
  exact congrArg (fun a => some (AddrMode.absolute a)) (wordOf_high_low w)


@[simp] theorem afterFrame_adcAbs (w : Word) (s : State) : afterFrame (Instr.adcAbs w) s = s.advance 3 4 := by
  rw [afterFrame_of_mode (descriptor?_adcAbs w) (memMode_adcAbs w), frameCycles_zero]

/-! ### rorAbs -/

@[simp] theorem descriptor?_rorAbs (w : Word) : (Instr.rorAbs w).descriptor? =
    some ⟨.mROR, .absolute, 3, 6, 0, .documented, .f3 .rorAbs⟩ := by
  show Sys2Proof.descriptor? 0x6E = _
  rfl

@[simp] theorem memMode_rorAbs (w : Word) : memMode (Instr.rorAbs w) = some (.absolute w) := by
  rw [memMode_of_row (descriptor?_rorAbs w)]
  exact congrArg (fun a => some (AddrMode.absolute a)) (wordOf_high_low w)


@[simp] theorem afterFrame_rorAbs (w : Word) (s : State) : afterFrame (Instr.rorAbs w) s = s.advance 3 6 := by
  rw [afterFrame_of_mode (descriptor?_rorAbs w) (memMode_rorAbs w), frameCycles_zero]

/-! ### rraAbs -/

@[simp] theorem descriptor?_rraAbs (w : Word) : (Instr.rraAbs w).descriptor? =
    some ⟨.mRRA, .absolute, 3, 6, 0, .undocumented, .f3 .rraAbs⟩ := by
  show Sys2Proof.descriptor? 0x6F = _
  rfl

@[simp] theorem memMode_rraAbs (w : Word) : memMode (Instr.rraAbs w) = some (.absolute w) := by
  rw [memMode_of_row (descriptor?_rraAbs w)]
  exact congrArg (fun a => some (AddrMode.absolute a)) (wordOf_high_low w)


@[simp] theorem afterFrame_rraAbs (w : Word) (s : State) : afterFrame (Instr.rraAbs w) s = s.advance 3 6 := by
  rw [afterFrame_of_mode (descriptor?_rraAbs w) (memMode_rraAbs w), frameCycles_zero]

/-! ### bvs -/

@[simp] theorem descriptor?_bvs (off : Int) : (Instr.bvs off).descriptor? =
    some ⟨.mBVS, .relative, 2, 2, 0, .documented, .f2 fun b => .bvs b.toInt⟩ := by
  show Sys2Proof.descriptor? 0x70 = _
  rfl

@[simp] theorem memMode_bvs (off : Int) : memMode (Instr.bvs off) = none := by
  rw [memMode_of_row (descriptor?_bvs off)]
  rfl

@[simp] theorem afterFrame_bvs (off : Int) (s : State) : afterFrame (Instr.bvs off) s = s.advance 2 2 :=
  afterFrame_of_none (descriptor?_bvs off) (memMode_bvs off) s

/-! ### adcIndY -/

@[simp] theorem descriptor?_adcIndY (b : Byte) : (Instr.adcIndY b).descriptor? =
    some ⟨.mADC, .indirectIndexed, 2, 5, 1, .documented, .f2 .adcIndY⟩ := by
  show Sys2Proof.descriptor? 0x71 = _
  rfl

@[simp] theorem memMode_adcIndY (b : Byte) : memMode (Instr.adcIndY b) = some (.indirectIndexed b) := by
  rw [memMode_of_row (descriptor?_adcIndY b)]
  rfl


@[simp] theorem afterFrame_adcIndY (b : Byte) (s : State) : afterFrame (Instr.adcIndY b) s =
    s.advance 2 (frameCycles 5 1 (resolve (.indirectIndexed b) s)) :=
  afterFrame_of_mode (descriptor?_adcIndY b) (memMode_adcIndY b) s

/-! ### jam72 -/

@[simp] theorem descriptor?_jam72 : Instr.jam72.descriptor? =
    some ⟨.mJAM, .implied, 1, 2, 0, .undocumented, .f1 .jam72⟩ := by
  show Sys2Proof.descriptor? 0x72 = _
  rfl

@[simp] theorem memMode_jam72 : memMode Instr.jam72 = none := by
  rw [memMode_of_row (descriptor?_jam72)]
  rfl

@[simp] theorem afterFrame_jam72 (s : State) : afterFrame Instr.jam72 s = s.advance 1 2 :=
  afterFrame_of_none (descriptor?_jam72) (memMode_jam72) s

/-! ### rraIndY -/

@[simp] theorem descriptor?_rraIndY (b : Byte) : (Instr.rraIndY b).descriptor? =
    some ⟨.mRRA, .indirectIndexed, 2, 8, 0, .undocumented, .f2 .rraIndY⟩ := by
  show Sys2Proof.descriptor? 0x73 = _
  rfl

@[simp] theorem memMode_rraIndY (b : Byte) : memMode (Instr.rraIndY b) = some (.indirectIndexed b) := by
  rw [memMode_of_row (descriptor?_rraIndY b)]
  rfl


@[simp] theorem afterFrame_rraIndY (b : Byte) (s : State) : afterFrame (Instr.rraIndY b) s = s.advance 2 8 := by
  rw [afterFrame_of_mode (descriptor?_rraIndY b) (memMode_rraIndY b), frameCycles_zero]

/-! ### nopZpX74 -/

@[simp] theorem descriptor?_nopZpX74 (b : Byte) : (Instr.nopZpX74 b).descriptor? =
    some ⟨.mNOP, .zeroPageX, 2, 4, 0, .undocumented, .f2 .nopZpX74⟩ := by
  show Sys2Proof.descriptor? 0x74 = _
  rfl

@[simp] theorem memMode_nopZpX74 (b : Byte) : memMode (Instr.nopZpX74 b) = some (.zeroPageX b) := by
  rw [memMode_of_row (descriptor?_nopZpX74 b)]
  rfl


@[simp] theorem afterFrame_nopZpX74 (b : Byte) (s : State) : afterFrame (Instr.nopZpX74 b) s = s.advance 2 4 := by
  rw [afterFrame_of_mode (descriptor?_nopZpX74 b) (memMode_nopZpX74 b), frameCycles_zero]

/-! ### adcZpX -/

@[simp] theorem descriptor?_adcZpX (b : Byte) : (Instr.adcZpX b).descriptor? =
    some ⟨.mADC, .zeroPageX, 2, 4, 0, .documented, .f2 .adcZpX⟩ := by
  show Sys2Proof.descriptor? 0x75 = _
  rfl

@[simp] theorem memMode_adcZpX (b : Byte) : memMode (Instr.adcZpX b) = some (.zeroPageX b) := by
  rw [memMode_of_row (descriptor?_adcZpX b)]
  rfl


@[simp] theorem afterFrame_adcZpX (b : Byte) (s : State) : afterFrame (Instr.adcZpX b) s = s.advance 2 4 := by
  rw [afterFrame_of_mode (descriptor?_adcZpX b) (memMode_adcZpX b), frameCycles_zero]

/-! ### rorZpX -/

@[simp] theorem descriptor?_rorZpX (b : Byte) : (Instr.rorZpX b).descriptor? =
    some ⟨.mROR, .zeroPageX, 2, 6, 0, .documented, .f2 .rorZpX⟩ := by
  show Sys2Proof.descriptor? 0x76 = _
  rfl

@[simp] theorem memMode_rorZpX (b : Byte) : memMode (Instr.rorZpX b) = some (.zeroPageX b) := by
  rw [memMode_of_row (descriptor?_rorZpX b)]
  rfl


@[simp] theorem afterFrame_rorZpX (b : Byte) (s : State) : afterFrame (Instr.rorZpX b) s = s.advance 2 6 := by
  rw [afterFrame_of_mode (descriptor?_rorZpX b) (memMode_rorZpX b), frameCycles_zero]

/-! ### rraZpX -/

@[simp] theorem descriptor?_rraZpX (b : Byte) : (Instr.rraZpX b).descriptor? =
    some ⟨.mRRA, .zeroPageX, 2, 6, 0, .undocumented, .f2 .rraZpX⟩ := by
  show Sys2Proof.descriptor? 0x77 = _
  rfl

@[simp] theorem memMode_rraZpX (b : Byte) : memMode (Instr.rraZpX b) = some (.zeroPageX b) := by
  rw [memMode_of_row (descriptor?_rraZpX b)]
  rfl


@[simp] theorem afterFrame_rraZpX (b : Byte) (s : State) : afterFrame (Instr.rraZpX b) s = s.advance 2 6 := by
  rw [afterFrame_of_mode (descriptor?_rraZpX b) (memMode_rraZpX b), frameCycles_zero]

/-! ### sei -/

@[simp] theorem descriptor?_sei : Instr.sei.descriptor? =
    some ⟨.mSEI, .implied, 1, 2, 0, .documented, .f1 .sei⟩ := by
  show Sys2Proof.descriptor? 0x78 = _
  rfl

@[simp] theorem memMode_sei : memMode Instr.sei = none := by
  rw [memMode_of_row (descriptor?_sei)]
  rfl

@[simp] theorem afterFrame_sei (s : State) : afterFrame Instr.sei s = s.advance 1 2 :=
  afterFrame_of_none (descriptor?_sei) (memMode_sei) s

/-! ### adcAbsY -/

@[simp] theorem descriptor?_adcAbsY (w : Word) : (Instr.adcAbsY w).descriptor? =
    some ⟨.mADC, .absoluteY, 3, 4, 1, .documented, .f3 .adcAbsY⟩ := by
  show Sys2Proof.descriptor? 0x79 = _
  rfl

@[simp] theorem memMode_adcAbsY (w : Word) : memMode (Instr.adcAbsY w) = some (.absoluteY w) := by
  rw [memMode_of_row (descriptor?_adcAbsY w)]
  exact congrArg (fun a => some (AddrMode.absoluteY a)) (wordOf_high_low w)


@[simp] theorem afterFrame_adcAbsY (w : Word) (s : State) : afterFrame (Instr.adcAbsY w) s =
    s.advance 3 (frameCycles 4 1 (resolve (.absoluteY w) s)) :=
  afterFrame_of_mode (descriptor?_adcAbsY w) (memMode_adcAbsY w) s

/-! ### nopImp7A -/

@[simp] theorem descriptor?_nopImp7A : Instr.nopImp7A.descriptor? =
    some ⟨.mNOP, .implied, 1, 2, 0, .undocumented, .f1 .nopImp7A⟩ := by
  show Sys2Proof.descriptor? 0x7A = _
  rfl

@[simp] theorem memMode_nopImp7A : memMode Instr.nopImp7A = none := by
  rw [memMode_of_row (descriptor?_nopImp7A)]
  rfl

@[simp] theorem afterFrame_nopImp7A (s : State) : afterFrame Instr.nopImp7A s = s.advance 1 2 :=
  afterFrame_of_none (descriptor?_nopImp7A) (memMode_nopImp7A) s

/-! ### rraAbsY -/

@[simp] theorem descriptor?_rraAbsY (w : Word) : (Instr.rraAbsY w).descriptor? =
    some ⟨.mRRA, .absoluteY, 3, 7, 0, .undocumented, .f3 .rraAbsY⟩ := by
  show Sys2Proof.descriptor? 0x7B = _
  rfl

@[simp] theorem memMode_rraAbsY (w : Word) : memMode (Instr.rraAbsY w) = some (.absoluteY w) := by
  rw [memMode_of_row (descriptor?_rraAbsY w)]
  exact congrArg (fun a => some (AddrMode.absoluteY a)) (wordOf_high_low w)


@[simp] theorem afterFrame_rraAbsY (w : Word) (s : State) : afterFrame (Instr.rraAbsY w) s = s.advance 3 7 := by
  rw [afterFrame_of_mode (descriptor?_rraAbsY w) (memMode_rraAbsY w), frameCycles_zero]

/-! ### nopAbsX7C -/

@[simp] theorem descriptor?_nopAbsX7C (w : Word) : (Instr.nopAbsX7C w).descriptor? =
    some ⟨.mNOP, .absoluteX, 3, 4, 1, .undocumented, .f3 .nopAbsX7C⟩ := by
  show Sys2Proof.descriptor? 0x7C = _
  rfl

@[simp] theorem memMode_nopAbsX7C (w : Word) : memMode (Instr.nopAbsX7C w) = some (.absoluteX w) := by
  rw [memMode_of_row (descriptor?_nopAbsX7C w)]
  exact congrArg (fun a => some (AddrMode.absoluteX a)) (wordOf_high_low w)


@[simp] theorem afterFrame_nopAbsX7C (w : Word) (s : State) : afterFrame (Instr.nopAbsX7C w) s =
    s.advance 3 (frameCycles 4 1 (resolve (.absoluteX w) s)) :=
  afterFrame_of_mode (descriptor?_nopAbsX7C w) (memMode_nopAbsX7C w) s

/-! ### adcAbsX -/

@[simp] theorem descriptor?_adcAbsX (w : Word) : (Instr.adcAbsX w).descriptor? =
    some ⟨.mADC, .absoluteX, 3, 4, 1, .documented, .f3 .adcAbsX⟩ := by
  show Sys2Proof.descriptor? 0x7D = _
  rfl

@[simp] theorem memMode_adcAbsX (w : Word) : memMode (Instr.adcAbsX w) = some (.absoluteX w) := by
  rw [memMode_of_row (descriptor?_adcAbsX w)]
  exact congrArg (fun a => some (AddrMode.absoluteX a)) (wordOf_high_low w)


@[simp] theorem afterFrame_adcAbsX (w : Word) (s : State) : afterFrame (Instr.adcAbsX w) s =
    s.advance 3 (frameCycles 4 1 (resolve (.absoluteX w) s)) :=
  afterFrame_of_mode (descriptor?_adcAbsX w) (memMode_adcAbsX w) s

/-! ### rorAbsX -/

@[simp] theorem descriptor?_rorAbsX (w : Word) : (Instr.rorAbsX w).descriptor? =
    some ⟨.mROR, .absoluteX, 3, 7, 0, .documented, .f3 .rorAbsX⟩ := by
  show Sys2Proof.descriptor? 0x7E = _
  rfl

@[simp] theorem memMode_rorAbsX (w : Word) : memMode (Instr.rorAbsX w) = some (.absoluteX w) := by
  rw [memMode_of_row (descriptor?_rorAbsX w)]
  exact congrArg (fun a => some (AddrMode.absoluteX a)) (wordOf_high_low w)


@[simp] theorem afterFrame_rorAbsX (w : Word) (s : State) : afterFrame (Instr.rorAbsX w) s = s.advance 3 7 := by
  rw [afterFrame_of_mode (descriptor?_rorAbsX w) (memMode_rorAbsX w), frameCycles_zero]

/-! ### rraAbsX -/

@[simp] theorem descriptor?_rraAbsX (w : Word) : (Instr.rraAbsX w).descriptor? =
    some ⟨.mRRA, .absoluteX, 3, 7, 0, .undocumented, .f3 .rraAbsX⟩ := by
  show Sys2Proof.descriptor? 0x7F = _
  rfl

@[simp] theorem memMode_rraAbsX (w : Word) : memMode (Instr.rraAbsX w) = some (.absoluteX w) := by
  rw [memMode_of_row (descriptor?_rraAbsX w)]
  exact congrArg (fun a => some (AddrMode.absoluteX a)) (wordOf_high_low w)


@[simp] theorem afterFrame_rraAbsX (w : Word) (s : State) : afterFrame (Instr.rraAbsX w) s = s.advance 3 7 := by
  rw [afterFrame_of_mode (descriptor?_rraAbsX w) (memMode_rraAbsX w), frameCycles_zero]

/-! ### nopImm80 -/

@[simp] theorem descriptor?_nopImm80 (b : Byte) : (Instr.nopImm80 b).descriptor? =
    some ⟨.mNOP, .immediate, 2, 2, 0, .undocumented, .f2 .nopImm80⟩ := by
  show Sys2Proof.descriptor? 0x80 = _
  rfl

@[simp] theorem memMode_nopImm80 (b : Byte) : memMode (Instr.nopImm80 b) = none := by
  rw [memMode_of_row (descriptor?_nopImm80 b)]
  rfl

@[simp] theorem afterFrame_nopImm80 (b : Byte) (s : State) : afterFrame (Instr.nopImm80 b) s = s.advance 2 2 :=
  afterFrame_of_none (descriptor?_nopImm80 b) (memMode_nopImm80 b) s

/-! ### staIndX -/

@[simp] theorem descriptor?_staIndX (b : Byte) : (Instr.staIndX b).descriptor? =
    some ⟨.mSTA, .indexedIndirect, 2, 6, 0, .documented, .f2 .staIndX⟩ := by
  show Sys2Proof.descriptor? 0x81 = _
  rfl

@[simp] theorem memMode_staIndX (b : Byte) : memMode (Instr.staIndX b) = some (.indexedIndirect b) := by
  rw [memMode_of_row (descriptor?_staIndX b)]
  rfl


@[simp] theorem afterFrame_staIndX (b : Byte) (s : State) : afterFrame (Instr.staIndX b) s = s.advance 2 6 := by
  rw [afterFrame_of_mode (descriptor?_staIndX b) (memMode_staIndX b), frameCycles_zero]

/-! ### nopImm82 -/

@[simp] theorem descriptor?_nopImm82 (b : Byte) : (Instr.nopImm82 b).descriptor? =
    some ⟨.mNOP, .immediate, 2, 2, 0, .undocumented, .f2 .nopImm82⟩ := by
  show Sys2Proof.descriptor? 0x82 = _
  rfl

@[simp] theorem memMode_nopImm82 (b : Byte) : memMode (Instr.nopImm82 b) = none := by
  rw [memMode_of_row (descriptor?_nopImm82 b)]
  rfl

@[simp] theorem afterFrame_nopImm82 (b : Byte) (s : State) : afterFrame (Instr.nopImm82 b) s = s.advance 2 2 :=
  afterFrame_of_none (descriptor?_nopImm82 b) (memMode_nopImm82 b) s

/-! ### saxIndX -/

@[simp] theorem descriptor?_saxIndX (b : Byte) : (Instr.saxIndX b).descriptor? =
    some ⟨.mSAX, .indexedIndirect, 2, 6, 0, .undocumented, .f2 .saxIndX⟩ := by
  show Sys2Proof.descriptor? 0x83 = _
  rfl

@[simp] theorem memMode_saxIndX (b : Byte) : memMode (Instr.saxIndX b) = some (.indexedIndirect b) := by
  rw [memMode_of_row (descriptor?_saxIndX b)]
  rfl


@[simp] theorem afterFrame_saxIndX (b : Byte) (s : State) : afterFrame (Instr.saxIndX b) s = s.advance 2 6 := by
  rw [afterFrame_of_mode (descriptor?_saxIndX b) (memMode_saxIndX b), frameCycles_zero]

/-! ### styZp -/

@[simp] theorem descriptor?_styZp (b : Byte) : (Instr.styZp b).descriptor? =
    some ⟨.mSTY, .zeroPage, 2, 3, 0, .documented, .f2 .styZp⟩ := by
  show Sys2Proof.descriptor? 0x84 = _
  rfl

@[simp] theorem memMode_styZp (b : Byte) : memMode (Instr.styZp b) = some (.zeroPage b) := by
  rw [memMode_of_row (descriptor?_styZp b)]
  rfl


@[simp] theorem afterFrame_styZp (b : Byte) (s : State) : afterFrame (Instr.styZp b) s = s.advance 2 3 := by
  rw [afterFrame_of_mode (descriptor?_styZp b) (memMode_styZp b), frameCycles_zero]

/-! ### staZp -/

@[simp] theorem descriptor?_staZp (b : Byte) : (Instr.staZp b).descriptor? =
    some ⟨.mSTA, .zeroPage, 2, 3, 0, .documented, .f2 .staZp⟩ := by
  show Sys2Proof.descriptor? 0x85 = _
  rfl

@[simp] theorem memMode_staZp (b : Byte) : memMode (Instr.staZp b) = some (.zeroPage b) := by
  rw [memMode_of_row (descriptor?_staZp b)]
  rfl


@[simp] theorem afterFrame_staZp (b : Byte) (s : State) : afterFrame (Instr.staZp b) s = s.advance 2 3 := by
  rw [afterFrame_of_mode (descriptor?_staZp b) (memMode_staZp b), frameCycles_zero]

/-! ### stxZp -/

@[simp] theorem descriptor?_stxZp (b : Byte) : (Instr.stxZp b).descriptor? =
    some ⟨.mSTX, .zeroPage, 2, 3, 0, .documented, .f2 .stxZp⟩ := by
  show Sys2Proof.descriptor? 0x86 = _
  rfl

@[simp] theorem memMode_stxZp (b : Byte) : memMode (Instr.stxZp b) = some (.zeroPage b) := by
  rw [memMode_of_row (descriptor?_stxZp b)]
  rfl


@[simp] theorem afterFrame_stxZp (b : Byte) (s : State) : afterFrame (Instr.stxZp b) s = s.advance 2 3 := by
  rw [afterFrame_of_mode (descriptor?_stxZp b) (memMode_stxZp b), frameCycles_zero]

/-! ### saxZp -/

@[simp] theorem descriptor?_saxZp (b : Byte) : (Instr.saxZp b).descriptor? =
    some ⟨.mSAX, .zeroPage, 2, 3, 0, .undocumented, .f2 .saxZp⟩ := by
  show Sys2Proof.descriptor? 0x87 = _
  rfl

@[simp] theorem memMode_saxZp (b : Byte) : memMode (Instr.saxZp b) = some (.zeroPage b) := by
  rw [memMode_of_row (descriptor?_saxZp b)]
  rfl


@[simp] theorem afterFrame_saxZp (b : Byte) (s : State) : afterFrame (Instr.saxZp b) s = s.advance 2 3 := by
  rw [afterFrame_of_mode (descriptor?_saxZp b) (memMode_saxZp b), frameCycles_zero]

/-! ### dey -/

@[simp] theorem descriptor?_dey : Instr.dey.descriptor? =
    some ⟨.mDEY, .implied, 1, 2, 0, .documented, .f1 .dey⟩ := by
  show Sys2Proof.descriptor? 0x88 = _
  rfl

@[simp] theorem memMode_dey : memMode Instr.dey = none := by
  rw [memMode_of_row (descriptor?_dey)]
  rfl

@[simp] theorem afterFrame_dey (s : State) : afterFrame Instr.dey s = s.advance 1 2 :=
  afterFrame_of_none (descriptor?_dey) (memMode_dey) s

/-! ### nopImm89 -/

@[simp] theorem descriptor?_nopImm89 (b : Byte) : (Instr.nopImm89 b).descriptor? =
    some ⟨.mNOP, .immediate, 2, 2, 0, .undocumented, .f2 .nopImm89⟩ := by
  show Sys2Proof.descriptor? 0x89 = _
  rfl

@[simp] theorem memMode_nopImm89 (b : Byte) : memMode (Instr.nopImm89 b) = none := by
  rw [memMode_of_row (descriptor?_nopImm89 b)]
  rfl

@[simp] theorem afterFrame_nopImm89 (b : Byte) (s : State) : afterFrame (Instr.nopImm89 b) s = s.advance 2 2 :=
  afterFrame_of_none (descriptor?_nopImm89 b) (memMode_nopImm89 b) s

/-! ### txa -/

@[simp] theorem descriptor?_txa : Instr.txa.descriptor? =
    some ⟨.mTXA, .implied, 1, 2, 0, .documented, .f1 .txa⟩ := by
  show Sys2Proof.descriptor? 0x8A = _
  rfl

@[simp] theorem memMode_txa : memMode Instr.txa = none := by
  rw [memMode_of_row (descriptor?_txa)]
  rfl

@[simp] theorem afterFrame_txa (s : State) : afterFrame Instr.txa s = s.advance 1 2 :=
  afterFrame_of_none (descriptor?_txa) (memMode_txa) s

/-! ### xaaImm -/

@[simp] theorem descriptor?_xaaImm (b : Byte) : (Instr.xaaImm b).descriptor? =
    some ⟨.mXAA, .immediate, 2, 2, 0, .unstable, .f2 .xaaImm⟩ := by
  show Sys2Proof.descriptor? 0x8B = _
  rfl

@[simp] theorem memMode_xaaImm (b : Byte) : memMode (Instr.xaaImm b) = none := by
  rw [memMode_of_row (descriptor?_xaaImm b)]
  rfl

@[simp] theorem afterFrame_xaaImm (b : Byte) (s : State) : afterFrame (Instr.xaaImm b) s = s.advance 2 2 :=
  afterFrame_of_none (descriptor?_xaaImm b) (memMode_xaaImm b) s

/-! ### styAbs -/

@[simp] theorem descriptor?_styAbs (w : Word) : (Instr.styAbs w).descriptor? =
    some ⟨.mSTY, .absolute, 3, 4, 0, .documented, .f3 .styAbs⟩ := by
  show Sys2Proof.descriptor? 0x8C = _
  rfl

@[simp] theorem memMode_styAbs (w : Word) : memMode (Instr.styAbs w) = some (.absolute w) := by
  rw [memMode_of_row (descriptor?_styAbs w)]
  exact congrArg (fun a => some (AddrMode.absolute a)) (wordOf_high_low w)


@[simp] theorem afterFrame_styAbs (w : Word) (s : State) : afterFrame (Instr.styAbs w) s = s.advance 3 4 := by
  rw [afterFrame_of_mode (descriptor?_styAbs w) (memMode_styAbs w), frameCycles_zero]

/-! ### staAbs -/

@[simp] theorem descriptor?_staAbs (w : Word) : (Instr.staAbs w).descriptor? =
    some ⟨.mSTA, .absolute, 3, 4, 0, .documented, .f3 .staAbs⟩ := by
  show Sys2Proof.descriptor? 0x8D = _
  rfl

@[simp] theorem memMode_staAbs (w : Word) : memMode (Instr.staAbs w) = some (.absolute w) := by
  rw [memMode_of_row (descriptor?_staAbs w)]
  exact congrArg (fun a => some (AddrMode.absolute a)) (wordOf_high_low w)


@[simp] theorem afterFrame_staAbs (w : Word) (s : State) : afterFrame (Instr.staAbs w) s = s.advance 3 4 := by
  rw [afterFrame_of_mode (descriptor?_staAbs w) (memMode_staAbs w), frameCycles_zero]

/-! ### stxAbs -/

@[simp] theorem descriptor?_stxAbs (w : Word) : (Instr.stxAbs w).descriptor? =
    some ⟨.mSTX, .absolute, 3, 4, 0, .documented, .f3 .stxAbs⟩ := by
  show Sys2Proof.descriptor? 0x8E = _
  rfl

@[simp] theorem memMode_stxAbs (w : Word) : memMode (Instr.stxAbs w) = some (.absolute w) := by
  rw [memMode_of_row (descriptor?_stxAbs w)]
  exact congrArg (fun a => some (AddrMode.absolute a)) (wordOf_high_low w)


@[simp] theorem afterFrame_stxAbs (w : Word) (s : State) : afterFrame (Instr.stxAbs w) s = s.advance 3 4 := by
  rw [afterFrame_of_mode (descriptor?_stxAbs w) (memMode_stxAbs w), frameCycles_zero]

/-! ### saxAbs -/

@[simp] theorem descriptor?_saxAbs (w : Word) : (Instr.saxAbs w).descriptor? =
    some ⟨.mSAX, .absolute, 3, 4, 0, .undocumented, .f3 .saxAbs⟩ := by
  show Sys2Proof.descriptor? 0x8F = _
  rfl

@[simp] theorem memMode_saxAbs (w : Word) : memMode (Instr.saxAbs w) = some (.absolute w) := by
  rw [memMode_of_row (descriptor?_saxAbs w)]
  exact congrArg (fun a => some (AddrMode.absolute a)) (wordOf_high_low w)


@[simp] theorem afterFrame_saxAbs (w : Word) (s : State) : afterFrame (Instr.saxAbs w) s = s.advance 3 4 := by
  rw [afterFrame_of_mode (descriptor?_saxAbs w) (memMode_saxAbs w), frameCycles_zero]

/-! ### bcc -/

@[simp] theorem descriptor?_bcc (off : Int) : (Instr.bcc off).descriptor? =
    some ⟨.mBCC, .relative, 2, 2, 0, .documented, .f2 fun b => .bcc b.toInt⟩ := by
  show Sys2Proof.descriptor? 0x90 = _
  rfl

@[simp] theorem memMode_bcc (off : Int) : memMode (Instr.bcc off) = none := by
  rw [memMode_of_row (descriptor?_bcc off)]
  rfl

@[simp] theorem afterFrame_bcc (off : Int) (s : State) : afterFrame (Instr.bcc off) s = s.advance 2 2 :=
  afterFrame_of_none (descriptor?_bcc off) (memMode_bcc off) s

/-! ### staIndY -/

@[simp] theorem descriptor?_staIndY (b : Byte) : (Instr.staIndY b).descriptor? =
    some ⟨.mSTA, .indirectIndexed, 2, 6, 0, .documented, .f2 .staIndY⟩ := by
  show Sys2Proof.descriptor? 0x91 = _
  rfl

@[simp] theorem memMode_staIndY (b : Byte) : memMode (Instr.staIndY b) = some (.indirectIndexed b) := by
  rw [memMode_of_row (descriptor?_staIndY b)]
  rfl


@[simp] theorem afterFrame_staIndY (b : Byte) (s : State) : afterFrame (Instr.staIndY b) s = s.advance 2 6 := by
  rw [afterFrame_of_mode (descriptor?_staIndY b) (memMode_staIndY b), frameCycles_zero]

/-! ### jam92 -/

@[simp] theorem descriptor?_jam92 : Instr.jam92.descriptor? =
    some ⟨.mJAM, .implied, 1, 2, 0, .undocumented, .f1 .jam92⟩ := by
  show Sys2Proof.descriptor? 0x92 = _
  rfl

@[simp] theorem memMode_jam92 : memMode Instr.jam92 = none := by
  rw [memMode_of_row (descriptor?_jam92)]
  rfl

@[simp] theorem afterFrame_jam92 (s : State) : afterFrame Instr.jam92 s = s.advance 1 2 :=
  afterFrame_of_none (descriptor?_jam92) (memMode_jam92) s

/-! ### ahxIndY -/

@[simp] theorem descriptor?_ahxIndY (b : Byte) : (Instr.ahxIndY b).descriptor? =
    some ⟨.mAHX, .indirectIndexed, 2, 6, 0, .unstable, .f2 .ahxIndY⟩ := by
  show Sys2Proof.descriptor? 0x93 = _
  rfl

@[simp] theorem memMode_ahxIndY (b : Byte) : memMode (Instr.ahxIndY b) = some (.indirectIndexed b) := by
  rw [memMode_of_row (descriptor?_ahxIndY b)]
  rfl


@[simp] theorem afterFrame_ahxIndY (b : Byte) (s : State) : afterFrame (Instr.ahxIndY b) s = s.advance 2 6 := by
  rw [afterFrame_of_mode (descriptor?_ahxIndY b) (memMode_ahxIndY b), frameCycles_zero]

/-! ### styZpX -/

@[simp] theorem descriptor?_styZpX (b : Byte) : (Instr.styZpX b).descriptor? =
    some ⟨.mSTY, .zeroPageX, 2, 4, 0, .documented, .f2 .styZpX⟩ := by
  show Sys2Proof.descriptor? 0x94 = _
  rfl

@[simp] theorem memMode_styZpX (b : Byte) : memMode (Instr.styZpX b) = some (.zeroPageX b) := by
  rw [memMode_of_row (descriptor?_styZpX b)]
  rfl


@[simp] theorem afterFrame_styZpX (b : Byte) (s : State) : afterFrame (Instr.styZpX b) s = s.advance 2 4 := by
  rw [afterFrame_of_mode (descriptor?_styZpX b) (memMode_styZpX b), frameCycles_zero]

/-! ### staZpX -/

@[simp] theorem descriptor?_staZpX (b : Byte) : (Instr.staZpX b).descriptor? =
    some ⟨.mSTA, .zeroPageX, 2, 4, 0, .documented, .f2 .staZpX⟩ := by
  show Sys2Proof.descriptor? 0x95 = _
  rfl

@[simp] theorem memMode_staZpX (b : Byte) : memMode (Instr.staZpX b) = some (.zeroPageX b) := by
  rw [memMode_of_row (descriptor?_staZpX b)]
  rfl


@[simp] theorem afterFrame_staZpX (b : Byte) (s : State) : afterFrame (Instr.staZpX b) s = s.advance 2 4 := by
  rw [afterFrame_of_mode (descriptor?_staZpX b) (memMode_staZpX b), frameCycles_zero]

/-! ### stxZpY -/

@[simp] theorem descriptor?_stxZpY (b : Byte) : (Instr.stxZpY b).descriptor? =
    some ⟨.mSTX, .zeroPageY, 2, 4, 0, .documented, .f2 .stxZpY⟩ := by
  show Sys2Proof.descriptor? 0x96 = _
  rfl

@[simp] theorem memMode_stxZpY (b : Byte) : memMode (Instr.stxZpY b) = some (.zeroPageY b) := by
  rw [memMode_of_row (descriptor?_stxZpY b)]
  rfl


@[simp] theorem afterFrame_stxZpY (b : Byte) (s : State) : afterFrame (Instr.stxZpY b) s = s.advance 2 4 := by
  rw [afterFrame_of_mode (descriptor?_stxZpY b) (memMode_stxZpY b), frameCycles_zero]

/-! ### saxZpY -/

@[simp] theorem descriptor?_saxZpY (b : Byte) : (Instr.saxZpY b).descriptor? =
    some ⟨.mSAX, .zeroPageY, 2, 4, 0, .undocumented, .f2 .saxZpY⟩ := by
  show Sys2Proof.descriptor? 0x97 = _
  rfl

@[simp] theorem memMode_saxZpY (b : Byte) : memMode (Instr.saxZpY b) = some (.zeroPageY b) := by
  rw [memMode_of_row (descriptor?_saxZpY b)]
  rfl


@[simp] theorem afterFrame_saxZpY (b : Byte) (s : State) : afterFrame (Instr.saxZpY b) s = s.advance 2 4 := by
  rw [afterFrame_of_mode (descriptor?_saxZpY b) (memMode_saxZpY b), frameCycles_zero]

/-! ### tya -/

@[simp] theorem descriptor?_tya : Instr.tya.descriptor? =
    some ⟨.mTYA, .implied, 1, 2, 0, .documented, .f1 .tya⟩ := by
  show Sys2Proof.descriptor? 0x98 = _
  rfl

@[simp] theorem memMode_tya : memMode Instr.tya = none := by
  rw [memMode_of_row (descriptor?_tya)]
  rfl

@[simp] theorem afterFrame_tya (s : State) : afterFrame Instr.tya s = s.advance 1 2 :=
  afterFrame_of_none (descriptor?_tya) (memMode_tya) s

/-! ### staAbsY -/

@[simp] theorem descriptor?_staAbsY (w : Word) : (Instr.staAbsY w).descriptor? =
    some ⟨.mSTA, .absoluteY, 3, 5, 0, .documented, .f3 .staAbsY⟩ := by
  show Sys2Proof.descriptor? 0x99 = _
  rfl

@[simp] theorem memMode_staAbsY (w : Word) : memMode (Instr.staAbsY w) = some (.absoluteY w) := by
  rw [memMode_of_row (descriptor?_staAbsY w)]
  exact congrArg (fun a => some (AddrMode.absoluteY a)) (wordOf_high_low w)


@[simp] theorem afterFrame_staAbsY (w : Word) (s : State) : afterFrame (Instr.staAbsY w) s = s.advance 3 5 := by
  rw [afterFrame_of_mode (descriptor?_staAbsY w) (memMode_staAbsY w), frameCycles_zero]

/-! ### txs -/

@[simp] theorem descriptor?_txs : Instr.txs.descriptor? =
    some ⟨.mTXS, .implied, 1, 2, 0, .documented, .f1 .txs⟩ := by
  show Sys2Proof.descriptor? 0x9A = _
  rfl

@[simp] theorem memMode_txs : memMode Instr.txs = none := by
  rw [memMode_of_row (descriptor?_txs)]
  rfl

@[simp] theorem afterFrame_txs (s : State) : afterFrame Instr.txs s = s.advance 1 2 :=
  afterFrame_of_none (descriptor?_txs) (memMode_txs) s

/-! ### tasAbsY -/

@[simp] theorem descriptor?_tasAbsY (w : Word) : (Instr.tasAbsY w).descriptor? =
    some ⟨.mTAS, .absoluteY, 3, 5, 0, .unstable, .f3 .tasAbsY⟩ := by
  show Sys2Proof.descriptor? 0x9B = _
  rfl

@[simp] theorem memMode_tasAbsY (w : Word) : memMode (Instr.tasAbsY w) = some (.absoluteY w) := by
  rw [memMode_of_row (descriptor?_tasAbsY w)]
  exact congrArg (fun a => some (AddrMode.absoluteY a)) (wordOf_high_low w)


@[simp] theorem afterFrame_tasAbsY (w : Word) (s : State) : afterFrame (Instr.tasAbsY w) s = s.advance 3 5 := by
  rw [afterFrame_of_mode (descriptor?_tasAbsY w) (memMode_tasAbsY w), frameCycles_zero]

/-! ### shyAbsX -/

@[simp] theorem descriptor?_shyAbsX (w : Word) : (Instr.shyAbsX w).descriptor? =
    some ⟨.mSHY, .absoluteX, 3, 5, 0, .unstable, .f3 .shyAbsX⟩ := by
  show Sys2Proof.descriptor? 0x9C = _
  rfl

@[simp] theorem memMode_shyAbsX (w : Word) : memMode (Instr.shyAbsX w) = some (.absoluteX w) := by
  rw [memMode_of_row (descriptor?_shyAbsX w)]
  exact congrArg (fun a => some (AddrMode.absoluteX a)) (wordOf_high_low w)


@[simp] theorem afterFrame_shyAbsX (w : Word) (s : State) : afterFrame (Instr.shyAbsX w) s = s.advance 3 5 := by
  rw [afterFrame_of_mode (descriptor?_shyAbsX w) (memMode_shyAbsX w), frameCycles_zero]

/-! ### staAbsX -/

@[simp] theorem descriptor?_staAbsX (w : Word) : (Instr.staAbsX w).descriptor? =
    some ⟨.mSTA, .absoluteX, 3, 5, 0, .documented, .f3 .staAbsX⟩ := by
  show Sys2Proof.descriptor? 0x9D = _
  rfl

@[simp] theorem memMode_staAbsX (w : Word) : memMode (Instr.staAbsX w) = some (.absoluteX w) := by
  rw [memMode_of_row (descriptor?_staAbsX w)]
  exact congrArg (fun a => some (AddrMode.absoluteX a)) (wordOf_high_low w)


@[simp] theorem afterFrame_staAbsX (w : Word) (s : State) : afterFrame (Instr.staAbsX w) s = s.advance 3 5 := by
  rw [afterFrame_of_mode (descriptor?_staAbsX w) (memMode_staAbsX w), frameCycles_zero]

/-! ### shxAbsY -/

@[simp] theorem descriptor?_shxAbsY (w : Word) : (Instr.shxAbsY w).descriptor? =
    some ⟨.mSHX, .absoluteY, 3, 5, 0, .unstable, .f3 .shxAbsY⟩ := by
  show Sys2Proof.descriptor? 0x9E = _
  rfl

@[simp] theorem memMode_shxAbsY (w : Word) : memMode (Instr.shxAbsY w) = some (.absoluteY w) := by
  rw [memMode_of_row (descriptor?_shxAbsY w)]
  exact congrArg (fun a => some (AddrMode.absoluteY a)) (wordOf_high_low w)


@[simp] theorem afterFrame_shxAbsY (w : Word) (s : State) : afterFrame (Instr.shxAbsY w) s = s.advance 3 5 := by
  rw [afterFrame_of_mode (descriptor?_shxAbsY w) (memMode_shxAbsY w), frameCycles_zero]

/-! ### ahxAbsY -/

@[simp] theorem descriptor?_ahxAbsY (w : Word) : (Instr.ahxAbsY w).descriptor? =
    some ⟨.mAHX, .absoluteY, 3, 5, 0, .unstable, .f3 .ahxAbsY⟩ := by
  show Sys2Proof.descriptor? 0x9F = _
  rfl

@[simp] theorem memMode_ahxAbsY (w : Word) : memMode (Instr.ahxAbsY w) = some (.absoluteY w) := by
  rw [memMode_of_row (descriptor?_ahxAbsY w)]
  exact congrArg (fun a => some (AddrMode.absoluteY a)) (wordOf_high_low w)


@[simp] theorem afterFrame_ahxAbsY (w : Word) (s : State) : afterFrame (Instr.ahxAbsY w) s = s.advance 3 5 := by
  rw [afterFrame_of_mode (descriptor?_ahxAbsY w) (memMode_ahxAbsY w), frameCycles_zero]

/-! ### ldyImm -/

@[simp] theorem descriptor?_ldyImm (b : Byte) : (Instr.ldyImm b).descriptor? =
    some ⟨.mLDY, .immediate, 2, 2, 0, .documented, .f2 .ldyImm⟩ := by
  show Sys2Proof.descriptor? 0xA0 = _
  rfl

@[simp] theorem memMode_ldyImm (b : Byte) : memMode (Instr.ldyImm b) = none := by
  rw [memMode_of_row (descriptor?_ldyImm b)]
  rfl

@[simp] theorem afterFrame_ldyImm (b : Byte) (s : State) : afterFrame (Instr.ldyImm b) s = s.advance 2 2 :=
  afterFrame_of_none (descriptor?_ldyImm b) (memMode_ldyImm b) s

/-! ### ldaIndX -/

@[simp] theorem descriptor?_ldaIndX (b : Byte) : (Instr.ldaIndX b).descriptor? =
    some ⟨.mLDA, .indexedIndirect, 2, 6, 0, .documented, .f2 .ldaIndX⟩ := by
  show Sys2Proof.descriptor? 0xA1 = _
  rfl

@[simp] theorem memMode_ldaIndX (b : Byte) : memMode (Instr.ldaIndX b) = some (.indexedIndirect b) := by
  rw [memMode_of_row (descriptor?_ldaIndX b)]
  rfl


@[simp] theorem afterFrame_ldaIndX (b : Byte) (s : State) : afterFrame (Instr.ldaIndX b) s = s.advance 2 6 := by
  rw [afterFrame_of_mode (descriptor?_ldaIndX b) (memMode_ldaIndX b), frameCycles_zero]

/-! ### ldxImm -/

@[simp] theorem descriptor?_ldxImm (b : Byte) : (Instr.ldxImm b).descriptor? =
    some ⟨.mLDX, .immediate, 2, 2, 0, .documented, .f2 .ldxImm⟩ := by
  show Sys2Proof.descriptor? 0xA2 = _
  rfl

@[simp] theorem memMode_ldxImm (b : Byte) : memMode (Instr.ldxImm b) = none := by
  rw [memMode_of_row (descriptor?_ldxImm b)]
  rfl

@[simp] theorem afterFrame_ldxImm (b : Byte) (s : State) : afterFrame (Instr.ldxImm b) s = s.advance 2 2 :=
  afterFrame_of_none (descriptor?_ldxImm b) (memMode_ldxImm b) s

/-! ### laxIndX -/

@[simp] theorem descriptor?_laxIndX (b : Byte) : (Instr.laxIndX b).descriptor? =
    some ⟨.mLAX, .indexedIndirect, 2, 6, 0, .undocumented, .f2 .laxIndX⟩ := by
  show Sys2Proof.descriptor? 0xA3 = _
  rfl

@[simp] theorem memMode_laxIndX (b : Byte) : memMode (Instr.laxIndX b) = some (.indexedIndirect b) := by
  rw [memMode_of_row (descriptor?_laxIndX b)]
  rfl


@[simp] theorem afterFrame_laxIndX (b : Byte) (s : State) : afterFrame (Instr.laxIndX b) s = s.advance 2 6 := by
  rw [afterFrame_of_mode (descriptor?_laxIndX b) (memMode_laxIndX b), frameCycles_zero]

/-! ### ldyZp -/

@[simp] theorem descriptor?_ldyZp (b : Byte) : (Instr.ldyZp b).descriptor? =
    some ⟨.mLDY, .zeroPage, 2, 3, 0, .documented, .f2 .ldyZp⟩ := by
  show Sys2Proof.descriptor? 0xA4 = _
  rfl

@[simp] theorem memMode_ldyZp (b : Byte) : memMode (Instr.ldyZp b) = some (.zeroPage b) := by
  rw [memMode_of_row (descriptor?_ldyZp b)]
  rfl


@[simp] theorem afterFrame_ldyZp (b : Byte) (s : State) : afterFrame (Instr.ldyZp b) s = s.advance 2 3 := by
  rw [afterFrame_of_mode (descriptor?_ldyZp b) (memMode_ldyZp b), frameCycles_zero]

/-! ### ldaZp -/

@[simp] theorem descriptor?_ldaZp (b : Byte) : (Instr.ldaZp b).descriptor? =
    some ⟨.mLDA, .zeroPage, 2, 3, 0, .documented, .f2 .ldaZp⟩ := by
  show Sys2Proof.descriptor? 0xA5 = _
  rfl

@[simp] theorem memMode_ldaZp (b : Byte) : memMode (Instr.ldaZp b) = some (.zeroPage b) := by
  rw [memMode_of_row (descriptor?_ldaZp b)]
  rfl


@[simp] theorem afterFrame_ldaZp (b : Byte) (s : State) : afterFrame (Instr.ldaZp b) s = s.advance 2 3 := by
  rw [afterFrame_of_mode (descriptor?_ldaZp b) (memMode_ldaZp b), frameCycles_zero]

/-! ### ldxZp -/

@[simp] theorem descriptor?_ldxZp (b : Byte) : (Instr.ldxZp b).descriptor? =
    some ⟨.mLDX, .zeroPage, 2, 3, 0, .documented, .f2 .ldxZp⟩ := by
  show Sys2Proof.descriptor? 0xA6 = _
  rfl

@[simp] theorem memMode_ldxZp (b : Byte) : memMode (Instr.ldxZp b) = some (.zeroPage b) := by
  rw [memMode_of_row (descriptor?_ldxZp b)]
  rfl


@[simp] theorem afterFrame_ldxZp (b : Byte) (s : State) : afterFrame (Instr.ldxZp b) s = s.advance 2 3 := by
  rw [afterFrame_of_mode (descriptor?_ldxZp b) (memMode_ldxZp b), frameCycles_zero]

/-! ### laxZp -/

@[simp] theorem descriptor?_laxZp (b : Byte) : (Instr.laxZp b).descriptor? =
    some ⟨.mLAX, .zeroPage, 2, 3, 0, .undocumented, .f2 .laxZp⟩ := by
  show Sys2Proof.descriptor? 0xA7 = _
  rfl

@[simp] theorem memMode_laxZp (b : Byte) : memMode (Instr.laxZp b) = some (.zeroPage b) := by
  rw [memMode_of_row (descriptor?_laxZp b)]
  rfl


@[simp] theorem afterFrame_laxZp (b : Byte) (s : State) : afterFrame (Instr.laxZp b) s = s.advance 2 3 := by
  rw [afterFrame_of_mode (descriptor?_laxZp b) (memMode_laxZp b), frameCycles_zero]

/-! ### tay -/

@[simp] theorem descriptor?_tay : Instr.tay.descriptor? =
    some ⟨.mTAY, .implied, 1, 2, 0, .documented, .f1 .tay⟩ := by
  show Sys2Proof.descriptor? 0xA8 = _
  rfl

@[simp] theorem memMode_tay : memMode Instr.tay = none := by
  rw [memMode_of_row (descriptor?_tay)]
  rfl

@[simp] theorem afterFrame_tay (s : State) : afterFrame Instr.tay s = s.advance 1 2 :=
  afterFrame_of_none (descriptor?_tay) (memMode_tay) s

/-! ### ldaImm -/

@[simp] theorem descriptor?_ldaImm (b : Byte) : (Instr.ldaImm b).descriptor? =
    some ⟨.mLDA, .immediate, 2, 2, 0, .documented, .f2 .ldaImm⟩ := by
  show Sys2Proof.descriptor? 0xA9 = _
  rfl

@[simp] theorem memMode_ldaImm (b : Byte) : memMode (Instr.ldaImm b) = none := by
  rw [memMode_of_row (descriptor?_ldaImm b)]
  rfl

@[simp] theorem afterFrame_ldaImm (b : Byte) (s : State) : afterFrame (Instr.ldaImm b) s = s.advance 2 2 :=
  afterFrame_of_none (descriptor?_ldaImm b) (memMode_ldaImm b) s

/-! ### tax -/

@[simp] theorem descriptor?_tax : Instr.tax.descriptor? =
    some ⟨.mTAX, .implied, 1, 2, 0, .documented, .f1 .tax⟩ := by
  show Sys2Proof.descriptor? 0xAA = _
  rfl

@[simp] theorem memMode_tax : memMode Instr.tax = none := by
  rw [memMode_of_row (descriptor?_tax)]
  rfl

@[simp] theorem afterFrame_tax (s : State) : afterFrame Instr.tax s = s.advance 1 2 :=
  afterFrame_of_none (descriptor?_tax) (memMode_tax) s

/-! ### lxaImm -/

@[simp] theorem descriptor?_lxaImm (b : Byte) : (Instr.lxaImm b).descriptor? =
    some ⟨.mLXA, .immediate, 2, 2, 0, .unstable, .f2 .lxaImm⟩ := by
  show Sys2Proof.descriptor? 0xAB = _
  rfl

@[simp] theorem memMode_lxaImm (b : Byte) : memMode (Instr.lxaImm b) = none := by
  rw [memMode_of_row (descriptor?_lxaImm b)]
  rfl

@[simp] theorem afterFrame_lxaImm (b : Byte) (s : State) : afterFrame (Instr.lxaImm b) s = s.advance 2 2 :=
  afterFrame_of_none (descriptor?_lxaImm b) (memMode_lxaImm b) s

/-! ### ldyAbs -/

@[simp] theorem descriptor?_ldyAbs (w : Word) : (Instr.ldyAbs w).descriptor? =
    some ⟨.mLDY, .absolute, 3, 4, 0, .documented, .f3 .ldyAbs⟩ := by
  show Sys2Proof.descriptor? 0xAC = _
  rfl

@[simp] theorem memMode_ldyAbs (w : Word) : memMode (Instr.ldyAbs w) = some (.absolute w) := by
  rw [memMode_of_row (descriptor?_ldyAbs w)]
  exact congrArg (fun a => some (AddrMode.absolute a)) (wordOf_high_low w)


@[simp] theorem afterFrame_ldyAbs (w : Word) (s : State) : afterFrame (Instr.ldyAbs w) s = s.advance 3 4 := by
  rw [afterFrame_of_mode (descriptor?_ldyAbs w) (memMode_ldyAbs w), frameCycles_zero]

/-! ### ldaAbs -/

@[simp] theorem descriptor?_ldaAbs (w : Word) : (Instr.ldaAbs w).descriptor? =
    some ⟨.mLDA, .absolute, 3, 4, 0, .documented, .f3 .ldaAbs⟩ := by
  show Sys2Proof.descriptor? 0xAD = _
  rfl

@[simp] theorem memMode_ldaAbs (w : Word) : memMode (Instr.ldaAbs w) = some (.absolute w) := by
  rw [memMode_of_row (descriptor?_ldaAbs w)]
  exact congrArg (fun a => some (AddrMode.absolute a)) (wordOf_high_low w)


@[simp] theorem afterFrame_ldaAbs (w : Word) (s : State) : afterFrame (Instr.ldaAbs w) s = s.advance 3 4 := by
  rw [afterFrame_of_mode (descriptor?_ldaAbs w) (memMode_ldaAbs w), frameCycles_zero]

/-! ### ldxAbs -/

@[simp] theorem descriptor?_ldxAbs (w : Word) : (Instr.ldxAbs w).descriptor? =
    some ⟨.mLDX, .absolute, 3, 4, 0, .documented, .f3 .ldxAbs⟩ := by
  show Sys2Proof.descriptor? 0xAE = _
  rfl

@[simp] theorem memMode_ldxAbs (w : Word) : memMode (Instr.ldxAbs w) = some (.absolute w) := by
  rw [memMode_of_row (descriptor?_ldxAbs w)]
  exact congrArg (fun a => some (AddrMode.absolute a)) (wordOf_high_low w)


@[simp] theorem afterFrame_ldxAbs (w : Word) (s : State) : afterFrame (Instr.ldxAbs w) s = s.advance 3 4 := by
  rw [afterFrame_of_mode (descriptor?_ldxAbs w) (memMode_ldxAbs w), frameCycles_zero]

/-! ### laxAbs -/

@[simp] theorem descriptor?_laxAbs (w : Word) : (Instr.laxAbs w).descriptor? =
    some ⟨.mLAX, .absolute, 3, 4, 0, .undocumented, .f3 .laxAbs⟩ := by
  show Sys2Proof.descriptor? 0xAF = _
  rfl

@[simp] theorem memMode_laxAbs (w : Word) : memMode (Instr.laxAbs w) = some (.absolute w) := by
  rw [memMode_of_row (descriptor?_laxAbs w)]
  exact congrArg (fun a => some (AddrMode.absolute a)) (wordOf_high_low w)


@[simp] theorem afterFrame_laxAbs (w : Word) (s : State) : afterFrame (Instr.laxAbs w) s = s.advance 3 4 := by
  rw [afterFrame_of_mode (descriptor?_laxAbs w) (memMode_laxAbs w), frameCycles_zero]

/-! ### bcs -/

@[simp] theorem descriptor?_bcs (off : Int) : (Instr.bcs off).descriptor? =
    some ⟨.mBCS, .relative, 2, 2, 0, .documented, .f2 fun b => .bcs b.toInt⟩ := by
  show Sys2Proof.descriptor? 0xB0 = _
  rfl

@[simp] theorem memMode_bcs (off : Int) : memMode (Instr.bcs off) = none := by
  rw [memMode_of_row (descriptor?_bcs off)]
  rfl

@[simp] theorem afterFrame_bcs (off : Int) (s : State) : afterFrame (Instr.bcs off) s = s.advance 2 2 :=
  afterFrame_of_none (descriptor?_bcs off) (memMode_bcs off) s

/-! ### ldaIndY -/

@[simp] theorem descriptor?_ldaIndY (b : Byte) : (Instr.ldaIndY b).descriptor? =
    some ⟨.mLDA, .indirectIndexed, 2, 5, 1, .documented, .f2 .ldaIndY⟩ := by
  show Sys2Proof.descriptor? 0xB1 = _
  rfl

@[simp] theorem memMode_ldaIndY (b : Byte) : memMode (Instr.ldaIndY b) = some (.indirectIndexed b) := by
  rw [memMode_of_row (descriptor?_ldaIndY b)]
  rfl


@[simp] theorem afterFrame_ldaIndY (b : Byte) (s : State) : afterFrame (Instr.ldaIndY b) s =
    s.advance 2 (frameCycles 5 1 (resolve (.indirectIndexed b) s)) :=
  afterFrame_of_mode (descriptor?_ldaIndY b) (memMode_ldaIndY b) s

/-! ### jamB2 -/

@[simp] theorem descriptor?_jamB2 : Instr.jamB2.descriptor? =
    some ⟨.mJAM, .implied, 1, 2, 0, .undocumented, .f1 .jamB2⟩ := by
  show Sys2Proof.descriptor? 0xB2 = _
  rfl

@[simp] theorem memMode_jamB2 : memMode Instr.jamB2 = none := by
  rw [memMode_of_row (descriptor?_jamB2)]
  rfl

@[simp] theorem afterFrame_jamB2 (s : State) : afterFrame Instr.jamB2 s = s.advance 1 2 :=
  afterFrame_of_none (descriptor?_jamB2) (memMode_jamB2) s

/-! ### laxIndY -/

@[simp] theorem descriptor?_laxIndY (b : Byte) : (Instr.laxIndY b).descriptor? =
    some ⟨.mLAX, .indirectIndexed, 2, 5, 1, .undocumented, .f2 .laxIndY⟩ := by
  show Sys2Proof.descriptor? 0xB3 = _
  rfl

@[simp] theorem memMode_laxIndY (b : Byte) : memMode (Instr.laxIndY b) = some (.indirectIndexed b) := by
  rw [memMode_of_row (descriptor?_laxIndY b)]
  rfl


@[simp] theorem afterFrame_laxIndY (b : Byte) (s : State) : afterFrame (Instr.laxIndY b) s =
    s.advance 2 (frameCycles 5 1 (resolve (.indirectIndexed b) s)) :=
  afterFrame_of_mode (descriptor?_laxIndY b) (memMode_laxIndY b) s

/-! ### ldyZpX -/

@[simp] theorem descriptor?_ldyZpX (b : Byte) : (Instr.ldyZpX b).descriptor? =
    some ⟨.mLDY, .zeroPageX, 2, 4, 0, .documented, .f2 .ldyZpX⟩ := by
  show Sys2Proof.descriptor? 0xB4 = _
  rfl

@[simp] theorem memMode_ldyZpX (b : Byte) : memMode (Instr.ldyZpX b) = some (.zeroPageX b) := by
  rw [memMode_of_row (descriptor?_ldyZpX b)]
  rfl


@[simp] theorem afterFrame_ldyZpX (b : Byte) (s : State) : afterFrame (Instr.ldyZpX b) s = s.advance 2 4 := by
  rw [afterFrame_of_mode (descriptor?_ldyZpX b) (memMode_ldyZpX b), frameCycles_zero]

/-! ### ldaZpX -/

@[simp] theorem descriptor?_ldaZpX (b : Byte) : (Instr.ldaZpX b).descriptor? =
    some ⟨.mLDA, .zeroPageX, 2, 4, 0, .documented, .f2 .ldaZpX⟩ := by
  show Sys2Proof.descriptor? 0xB5 = _
  rfl

@[simp] theorem memMode_ldaZpX (b : Byte) : memMode (Instr.ldaZpX b) = some (.zeroPageX b) := by
  rw [memMode_of_row (descriptor?_ldaZpX b)]
  rfl


@[simp] theorem afterFrame_ldaZpX (b : Byte) (s : State) : afterFrame (Instr.ldaZpX b) s = s.advance 2 4 := by
  rw [afterFrame_of_mode (descriptor?_ldaZpX b) (memMode_ldaZpX b), frameCycles_zero]

/-! ### ldxZpY -/

@[simp] theorem descriptor?_ldxZpY (b : Byte) : (Instr.ldxZpY b).descriptor? =
    some ⟨.mLDX, .zeroPageY, 2, 4, 0, .documented, .f2 .ldxZpY⟩ := by
  show Sys2Proof.descriptor? 0xB6 = _
  rfl

@[simp] theorem memMode_ldxZpY (b : Byte) : memMode (Instr.ldxZpY b) = some (.zeroPageY b) := by
  rw [memMode_of_row (descriptor?_ldxZpY b)]
  rfl


@[simp] theorem afterFrame_ldxZpY (b : Byte) (s : State) : afterFrame (Instr.ldxZpY b) s = s.advance 2 4 := by
  rw [afterFrame_of_mode (descriptor?_ldxZpY b) (memMode_ldxZpY b), frameCycles_zero]

/-! ### laxZpY -/

@[simp] theorem descriptor?_laxZpY (b : Byte) : (Instr.laxZpY b).descriptor? =
    some ⟨.mLAX, .zeroPageY, 2, 4, 0, .undocumented, .f2 .laxZpY⟩ := by
  show Sys2Proof.descriptor? 0xB7 = _
  rfl

@[simp] theorem memMode_laxZpY (b : Byte) : memMode (Instr.laxZpY b) = some (.zeroPageY b) := by
  rw [memMode_of_row (descriptor?_laxZpY b)]
  rfl


@[simp] theorem afterFrame_laxZpY (b : Byte) (s : State) : afterFrame (Instr.laxZpY b) s = s.advance 2 4 := by
  rw [afterFrame_of_mode (descriptor?_laxZpY b) (memMode_laxZpY b), frameCycles_zero]

/-! ### clv -/

@[simp] theorem descriptor?_clv : Instr.clv.descriptor? =
    some ⟨.mCLV, .implied, 1, 2, 0, .documented, .f1 .clv⟩ := by
  show Sys2Proof.descriptor? 0xB8 = _
  rfl

@[simp] theorem memMode_clv : memMode Instr.clv = none := by
  rw [memMode_of_row (descriptor?_clv)]
  rfl

@[simp] theorem afterFrame_clv (s : State) : afterFrame Instr.clv s = s.advance 1 2 :=
  afterFrame_of_none (descriptor?_clv) (memMode_clv) s

/-! ### ldaAbsY -/

@[simp] theorem descriptor?_ldaAbsY (w : Word) : (Instr.ldaAbsY w).descriptor? =
    some ⟨.mLDA, .absoluteY, 3, 4, 1, .documented, .f3 .ldaAbsY⟩ := by
  show Sys2Proof.descriptor? 0xB9 = _
  rfl

@[simp] theorem memMode_ldaAbsY (w : Word) : memMode (Instr.ldaAbsY w) = some (.absoluteY w) := by
  rw [memMode_of_row (descriptor?_ldaAbsY w)]
  exact congrArg (fun a => some (AddrMode.absoluteY a)) (wordOf_high_low w)


@[simp] theorem afterFrame_ldaAbsY (w : Word) (s : State) : afterFrame (Instr.ldaAbsY w) s =
    s.advance 3 (frameCycles 4 1 (resolve (.absoluteY w) s)) :=
  afterFrame_of_mode (descriptor?_ldaAbsY w) (memMode_ldaAbsY w) s

/-! ### tsx -/

@[simp] theorem descriptor?_tsx : Instr.tsx.descriptor? =
    some ⟨.mTSX, .implied, 1, 2, 0, .documented, .f1 .tsx⟩ := by
  show Sys2Proof.descriptor? 0xBA = _
  rfl

@[simp] theorem memMode_tsx : memMode Instr.tsx = none := by
  rw [memMode_of_row (descriptor?_tsx)]
  rfl

@[simp] theorem afterFrame_tsx (s : State) : afterFrame Instr.tsx s = s.advance 1 2 :=
  afterFrame_of_none (descriptor?_tsx) (memMode_tsx) s

/-! ### lasAbsY -/

@[simp] theorem descriptor?_lasAbsY (w : Word) : (Instr.lasAbsY w).descriptor? =
    some ⟨.mLAS, .absoluteY, 3, 4, 1, .undocumented, .f3 .lasAbsY⟩ := by
  show Sys2Proof.descriptor? 0xBB = _
  rfl

@[simp] theorem memMode_lasAbsY (w : Word) : memMode (Instr.lasAbsY w) = some (.absoluteY w) := by
  rw [memMode_of_row (descriptor?_lasAbsY w)]
  exact congrArg (fun a => some (AddrMode.absoluteY a)) (wordOf_high_low w)


@[simp] theorem afterFrame_lasAbsY (w : Word) (s : State) : afterFrame (Instr.lasAbsY w) s =
    s.advance 3 (frameCycles 4 1 (resolve (.absoluteY w) s)) :=
  afterFrame_of_mode (descriptor?_lasAbsY w) (memMode_lasAbsY w) s

/-! ### ldyAbsX -/

@[simp] theorem descriptor?_ldyAbsX (w : Word) : (Instr.ldyAbsX w).descriptor? =
    some ⟨.mLDY, .absoluteX, 3, 4, 1, .documented, .f3 .ldyAbsX⟩ := by
  show Sys2Proof.descriptor? 0xBC = _
  rfl

@[simp] theorem memMode_ldyAbsX (w : Word) : memMode (Instr.ldyAbsX w) = some (.absoluteX w) := by
  rw [memMode_of_row (descriptor?_ldyAbsX w)]
  exact congrArg (fun a => some (AddrMode.absoluteX a)) (wordOf_high_low w)


@[simp] theorem afterFrame_ldyAbsX (w : Word) (s : State) : afterFrame (Instr.ldyAbsX w) s =
    s.advance 3 (frameCycles 4 1 (resolve (.absoluteX w) s)) :=
  afterFrame_of_mode (descriptor?_ldyAbsX w) (memMode_ldyAbsX w) s

/-! ### ldaAbsX -/

@[simp] theorem descriptor?_ldaAbsX (w : Word) : (Instr.ldaAbsX w).descriptor? =
    some ⟨.mLDA, .absoluteX, 3, 4, 1, .documented, .f3 .ldaAbsX⟩ := by
  show Sys2Proof.descriptor? 0xBD = _
  rfl

@[simp] theorem memMode_ldaAbsX (w : Word) : memMode (Instr.ldaAbsX w) = some (.absoluteX w) := by
  rw [memMode_of_row (descriptor?_ldaAbsX w)]
  exact congrArg (fun a => some (AddrMode.absoluteX a)) (wordOf_high_low w)


@[simp] theorem afterFrame_ldaAbsX (w : Word) (s : State) : afterFrame (Instr.ldaAbsX w) s =
    s.advance 3 (frameCycles 4 1 (resolve (.absoluteX w) s)) :=
  afterFrame_of_mode (descriptor?_ldaAbsX w) (memMode_ldaAbsX w) s

/-! ### ldxAbsY -/

@[simp] theorem descriptor?_ldxAbsY (w : Word) : (Instr.ldxAbsY w).descriptor? =
    some ⟨.mLDX, .absoluteY, 3, 4, 1, .documented, .f3 .ldxAbsY⟩ := by
  show Sys2Proof.descriptor? 0xBE = _
  rfl

@[simp] theorem memMode_ldxAbsY (w : Word) : memMode (Instr.ldxAbsY w) = some (.absoluteY w) := by
  rw [memMode_of_row (descriptor?_ldxAbsY w)]
  exact congrArg (fun a => some (AddrMode.absoluteY a)) (wordOf_high_low w)


@[simp] theorem afterFrame_ldxAbsY (w : Word) (s : State) : afterFrame (Instr.ldxAbsY w) s =
    s.advance 3 (frameCycles 4 1 (resolve (.absoluteY w) s)) :=
  afterFrame_of_mode (descriptor?_ldxAbsY w) (memMode_ldxAbsY w) s

/-! ### laxAbsY -/

@[simp] theorem descriptor?_laxAbsY (w : Word) : (Instr.laxAbsY w).descriptor? =
    some ⟨.mLAX, .absoluteY, 3, 4, 1, .undocumented, .f3 .laxAbsY⟩ := by
  show Sys2Proof.descriptor? 0xBF = _
  rfl

@[simp] theorem memMode_laxAbsY (w : Word) : memMode (Instr.laxAbsY w) = some (.absoluteY w) := by
  rw [memMode_of_row (descriptor?_laxAbsY w)]
  exact congrArg (fun a => some (AddrMode.absoluteY a)) (wordOf_high_low w)


@[simp] theorem afterFrame_laxAbsY (w : Word) (s : State) : afterFrame (Instr.laxAbsY w) s =
    s.advance 3 (frameCycles 4 1 (resolve (.absoluteY w) s)) :=
  afterFrame_of_mode (descriptor?_laxAbsY w) (memMode_laxAbsY w) s

/-! ### cpyImm -/

@[simp] theorem descriptor?_cpyImm (b : Byte) : (Instr.cpyImm b).descriptor? =
    some ⟨.mCPY, .immediate, 2, 2, 0, .documented, .f2 .cpyImm⟩ := by
  show Sys2Proof.descriptor? 0xC0 = _
  rfl

@[simp] theorem memMode_cpyImm (b : Byte) : memMode (Instr.cpyImm b) = none := by
  rw [memMode_of_row (descriptor?_cpyImm b)]
  rfl

@[simp] theorem afterFrame_cpyImm (b : Byte) (s : State) : afterFrame (Instr.cpyImm b) s = s.advance 2 2 :=
  afterFrame_of_none (descriptor?_cpyImm b) (memMode_cpyImm b) s

/-! ### cmpIndX -/

@[simp] theorem descriptor?_cmpIndX (b : Byte) : (Instr.cmpIndX b).descriptor? =
    some ⟨.mCMP, .indexedIndirect, 2, 6, 0, .documented, .f2 .cmpIndX⟩ := by
  show Sys2Proof.descriptor? 0xC1 = _
  rfl

@[simp] theorem memMode_cmpIndX (b : Byte) : memMode (Instr.cmpIndX b) = some (.indexedIndirect b) := by
  rw [memMode_of_row (descriptor?_cmpIndX b)]
  rfl


@[simp] theorem afterFrame_cmpIndX (b : Byte) (s : State) : afterFrame (Instr.cmpIndX b) s = s.advance 2 6 := by
  rw [afterFrame_of_mode (descriptor?_cmpIndX b) (memMode_cmpIndX b), frameCycles_zero]

/-! ### nopImmC2 -/

@[simp] theorem descriptor?_nopImmC2 (b : Byte) : (Instr.nopImmC2 b).descriptor? =
    some ⟨.mNOP, .immediate, 2, 2, 0, .undocumented, .f2 .nopImmC2⟩ := by
  show Sys2Proof.descriptor? 0xC2 = _
  rfl

@[simp] theorem memMode_nopImmC2 (b : Byte) : memMode (Instr.nopImmC2 b) = none := by
  rw [memMode_of_row (descriptor?_nopImmC2 b)]
  rfl

@[simp] theorem afterFrame_nopImmC2 (b : Byte) (s : State) : afterFrame (Instr.nopImmC2 b) s = s.advance 2 2 :=
  afterFrame_of_none (descriptor?_nopImmC2 b) (memMode_nopImmC2 b) s

/-! ### dcpIndX -/

@[simp] theorem descriptor?_dcpIndX (b : Byte) : (Instr.dcpIndX b).descriptor? =
    some ⟨.mDCP, .indexedIndirect, 2, 8, 0, .undocumented, .f2 .dcpIndX⟩ := by
  show Sys2Proof.descriptor? 0xC3 = _
  rfl

@[simp] theorem memMode_dcpIndX (b : Byte) : memMode (Instr.dcpIndX b) = some (.indexedIndirect b) := by
  rw [memMode_of_row (descriptor?_dcpIndX b)]
  rfl


@[simp] theorem afterFrame_dcpIndX (b : Byte) (s : State) : afterFrame (Instr.dcpIndX b) s = s.advance 2 8 := by
  rw [afterFrame_of_mode (descriptor?_dcpIndX b) (memMode_dcpIndX b), frameCycles_zero]

/-! ### cpyZp -/

@[simp] theorem descriptor?_cpyZp (b : Byte) : (Instr.cpyZp b).descriptor? =
    some ⟨.mCPY, .zeroPage, 2, 3, 0, .documented, .f2 .cpyZp⟩ := by
  show Sys2Proof.descriptor? 0xC4 = _
  rfl

@[simp] theorem memMode_cpyZp (b : Byte) : memMode (Instr.cpyZp b) = some (.zeroPage b) := by
  rw [memMode_of_row (descriptor?_cpyZp b)]
  rfl


@[simp] theorem afterFrame_cpyZp (b : Byte) (s : State) : afterFrame (Instr.cpyZp b) s = s.advance 2 3 := by
  rw [afterFrame_of_mode (descriptor?_cpyZp b) (memMode_cpyZp b), frameCycles_zero]

/-! ### cmpZp -/

@[simp] theorem descriptor?_cmpZp (b : Byte) : (Instr.cmpZp b).descriptor? =
    some ⟨.mCMP, .zeroPage, 2, 3, 0, .documented, .f2 .cmpZp⟩ := by
  show Sys2Proof.descriptor? 0xC5 = _
  rfl

@[simp] theorem memMode_cmpZp (b : Byte) : memMode (Instr.cmpZp b) = some (.zeroPage b) := by
  rw [memMode_of_row (descriptor?_cmpZp b)]
  rfl


@[simp] theorem afterFrame_cmpZp (b : Byte) (s : State) : afterFrame (Instr.cmpZp b) s = s.advance 2 3 := by
  rw [afterFrame_of_mode (descriptor?_cmpZp b) (memMode_cmpZp b), frameCycles_zero]

/-! ### decZp -/

@[simp] theorem descriptor?_decZp (b : Byte) : (Instr.decZp b).descriptor? =
    some ⟨.mDEC, .zeroPage, 2, 5, 0, .documented, .f2 .decZp⟩ := by
  show Sys2Proof.descriptor? 0xC6 = _
  rfl

@[simp] theorem memMode_decZp (b : Byte) : memMode (Instr.decZp b) = some (.zeroPage b) := by
  rw [memMode_of_row (descriptor?_decZp b)]
  rfl


@[simp] theorem afterFrame_decZp (b : Byte) (s : State) : afterFrame (Instr.decZp b) s = s.advance 2 5 := by
  rw [afterFrame_of_mode (descriptor?_decZp b) (memMode_decZp b), frameCycles_zero]

/-! ### dcpZp -/

@[simp] theorem descriptor?_dcpZp (b : Byte) : (Instr.dcpZp b).descriptor? =
    some ⟨.mDCP, .zeroPage, 2, 5, 0, .undocumented, .f2 .dcpZp⟩ := by
  show Sys2Proof.descriptor? 0xC7 = _
  rfl

@[simp] theorem memMode_dcpZp (b : Byte) : memMode (Instr.dcpZp b) = some (.zeroPage b) := by
  rw [memMode_of_row (descriptor?_dcpZp b)]
  rfl


@[simp] theorem afterFrame_dcpZp (b : Byte) (s : State) : afterFrame (Instr.dcpZp b) s = s.advance 2 5 := by
  rw [afterFrame_of_mode (descriptor?_dcpZp b) (memMode_dcpZp b), frameCycles_zero]

/-! ### iny -/

@[simp] theorem descriptor?_iny : Instr.iny.descriptor? =
    some ⟨.mINY, .implied, 1, 2, 0, .documented, .f1 .iny⟩ := by
  show Sys2Proof.descriptor? 0xC8 = _
  rfl

@[simp] theorem memMode_iny : memMode Instr.iny = none := by
  rw [memMode_of_row (descriptor?_iny)]
  rfl

@[simp] theorem afterFrame_iny (s : State) : afterFrame Instr.iny s = s.advance 1 2 :=
  afterFrame_of_none (descriptor?_iny) (memMode_iny) s

/-! ### cmpImm -/

@[simp] theorem descriptor?_cmpImm (b : Byte) : (Instr.cmpImm b).descriptor? =
    some ⟨.mCMP, .immediate, 2, 2, 0, .documented, .f2 .cmpImm⟩ := by
  show Sys2Proof.descriptor? 0xC9 = _
  rfl

@[simp] theorem memMode_cmpImm (b : Byte) : memMode (Instr.cmpImm b) = none := by
  rw [memMode_of_row (descriptor?_cmpImm b)]
  rfl

@[simp] theorem afterFrame_cmpImm (b : Byte) (s : State) : afterFrame (Instr.cmpImm b) s = s.advance 2 2 :=
  afterFrame_of_none (descriptor?_cmpImm b) (memMode_cmpImm b) s

/-! ### dex -/

@[simp] theorem descriptor?_dex : Instr.dex.descriptor? =
    some ⟨.mDEX, .implied, 1, 2, 0, .documented, .f1 .dex⟩ := by
  show Sys2Proof.descriptor? 0xCA = _
  rfl

@[simp] theorem memMode_dex : memMode Instr.dex = none := by
  rw [memMode_of_row (descriptor?_dex)]
  rfl

@[simp] theorem afterFrame_dex (s : State) : afterFrame Instr.dex s = s.advance 1 2 :=
  afterFrame_of_none (descriptor?_dex) (memMode_dex) s

/-! ### axsImm -/

@[simp] theorem descriptor?_axsImm (b : Byte) : (Instr.axsImm b).descriptor? =
    some ⟨.mAXS, .immediate, 2, 2, 0, .undocumented, .f2 .axsImm⟩ := by
  show Sys2Proof.descriptor? 0xCB = _
  rfl

@[simp] theorem memMode_axsImm (b : Byte) : memMode (Instr.axsImm b) = none := by
  rw [memMode_of_row (descriptor?_axsImm b)]
  rfl

@[simp] theorem afterFrame_axsImm (b : Byte) (s : State) : afterFrame (Instr.axsImm b) s = s.advance 2 2 :=
  afterFrame_of_none (descriptor?_axsImm b) (memMode_axsImm b) s

/-! ### cpyAbs -/

@[simp] theorem descriptor?_cpyAbs (w : Word) : (Instr.cpyAbs w).descriptor? =
    some ⟨.mCPY, .absolute, 3, 4, 0, .documented, .f3 .cpyAbs⟩ := by
  show Sys2Proof.descriptor? 0xCC = _
  rfl

@[simp] theorem memMode_cpyAbs (w : Word) : memMode (Instr.cpyAbs w) = some (.absolute w) := by
  rw [memMode_of_row (descriptor?_cpyAbs w)]
  exact congrArg (fun a => some (AddrMode.absolute a)) (wordOf_high_low w)


@[simp] theorem afterFrame_cpyAbs (w : Word) (s : State) : afterFrame (Instr.cpyAbs w) s = s.advance 3 4 := by
  rw [afterFrame_of_mode (descriptor?_cpyAbs w) (memMode_cpyAbs w), frameCycles_zero]

/-! ### cmpAbs -/

@[simp] theorem descriptor?_cmpAbs (w : Word) : (Instr.cmpAbs w).descriptor? =
    some ⟨.mCMP, .absolute, 3, 4, 0, .documented, .f3 .cmpAbs⟩ := by
  show Sys2Proof.descriptor? 0xCD = _
  rfl

@[simp] theorem memMode_cmpAbs (w : Word) : memMode (Instr.cmpAbs w) = some (.absolute w) := by
  rw [memMode_of_row (descriptor?_cmpAbs w)]
  exact congrArg (fun a => some (AddrMode.absolute a)) (wordOf_high_low w)


@[simp] theorem afterFrame_cmpAbs (w : Word) (s : State) : afterFrame (Instr.cmpAbs w) s = s.advance 3 4 := by
  rw [afterFrame_of_mode (descriptor?_cmpAbs w) (memMode_cmpAbs w), frameCycles_zero]

/-! ### decAbs -/

@[simp] theorem descriptor?_decAbs (w : Word) : (Instr.decAbs w).descriptor? =
    some ⟨.mDEC, .absolute, 3, 6, 0, .documented, .f3 .decAbs⟩ := by
  show Sys2Proof.descriptor? 0xCE = _
  rfl

@[simp] theorem memMode_decAbs (w : Word) : memMode (Instr.decAbs w) = some (.absolute w) := by
  rw [memMode_of_row (descriptor?_decAbs w)]
  exact congrArg (fun a => some (AddrMode.absolute a)) (wordOf_high_low w)


@[simp] theorem afterFrame_decAbs (w : Word) (s : State) : afterFrame (Instr.decAbs w) s = s.advance 3 6 := by
  rw [afterFrame_of_mode (descriptor?_decAbs w) (memMode_decAbs w), frameCycles_zero]

/-! ### dcpAbs -/

@[simp] theorem descriptor?_dcpAbs (w : Word) : (Instr.dcpAbs w).descriptor? =
    some ⟨.mDCP, .absolute, 3, 6, 0, .undocumented, .f3 .dcpAbs⟩ := by
  show Sys2Proof.descriptor? 0xCF = _
  rfl

@[simp] theorem memMode_dcpAbs (w : Word) : memMode (Instr.dcpAbs w) = some (.absolute w) := by
  rw [memMode_of_row (descriptor?_dcpAbs w)]
  exact congrArg (fun a => some (AddrMode.absolute a)) (wordOf_high_low w)


@[simp] theorem afterFrame_dcpAbs (w : Word) (s : State) : afterFrame (Instr.dcpAbs w) s = s.advance 3 6 := by
  rw [afterFrame_of_mode (descriptor?_dcpAbs w) (memMode_dcpAbs w), frameCycles_zero]

/-! ### bne -/

@[simp] theorem descriptor?_bne (off : Int) : (Instr.bne off).descriptor? =
    some ⟨.mBNE, .relative, 2, 2, 0, .documented, .f2 fun b => .bne b.toInt⟩ := by
  show Sys2Proof.descriptor? 0xD0 = _
  rfl

@[simp] theorem memMode_bne (off : Int) : memMode (Instr.bne off) = none := by
  rw [memMode_of_row (descriptor?_bne off)]
  rfl

@[simp] theorem afterFrame_bne (off : Int) (s : State) : afterFrame (Instr.bne off) s = s.advance 2 2 :=
  afterFrame_of_none (descriptor?_bne off) (memMode_bne off) s

/-! ### cmpIndY -/

@[simp] theorem descriptor?_cmpIndY (b : Byte) : (Instr.cmpIndY b).descriptor? =
    some ⟨.mCMP, .indirectIndexed, 2, 5, 1, .documented, .f2 .cmpIndY⟩ := by
  show Sys2Proof.descriptor? 0xD1 = _
  rfl

@[simp] theorem memMode_cmpIndY (b : Byte) : memMode (Instr.cmpIndY b) = some (.indirectIndexed b) := by
  rw [memMode_of_row (descriptor?_cmpIndY b)]
  rfl


@[simp] theorem afterFrame_cmpIndY (b : Byte) (s : State) : afterFrame (Instr.cmpIndY b) s =
    s.advance 2 (frameCycles 5 1 (resolve (.indirectIndexed b) s)) :=
  afterFrame_of_mode (descriptor?_cmpIndY b) (memMode_cmpIndY b) s

/-! ### jamD2 -/

@[simp] theorem descriptor?_jamD2 : Instr.jamD2.descriptor? =
    some ⟨.mJAM, .implied, 1, 2, 0, .undocumented, .f1 .jamD2⟩ := by
  show Sys2Proof.descriptor? 0xD2 = _
  rfl

@[simp] theorem memMode_jamD2 : memMode Instr.jamD2 = none := by
  rw [memMode_of_row (descriptor?_jamD2)]
  rfl

@[simp] theorem afterFrame_jamD2 (s : State) : afterFrame Instr.jamD2 s = s.advance 1 2 :=
  afterFrame_of_none (descriptor?_jamD2) (memMode_jamD2) s

/-! ### dcpIndY -/

@[simp] theorem descriptor?_dcpIndY (b : Byte) : (Instr.dcpIndY b).descriptor? =
    some ⟨.mDCP, .indirectIndexed, 2, 8, 0, .undocumented, .f2 .dcpIndY⟩ := by
  show Sys2Proof.descriptor? 0xD3 = _
  rfl

@[simp] theorem memMode_dcpIndY (b : Byte) : memMode (Instr.dcpIndY b) = some (.indirectIndexed b) := by
  rw [memMode_of_row (descriptor?_dcpIndY b)]
  rfl


@[simp] theorem afterFrame_dcpIndY (b : Byte) (s : State) : afterFrame (Instr.dcpIndY b) s = s.advance 2 8 := by
  rw [afterFrame_of_mode (descriptor?_dcpIndY b) (memMode_dcpIndY b), frameCycles_zero]

/-! ### nopZpXD4 -/

@[simp] theorem descriptor?_nopZpXD4 (b : Byte) : (Instr.nopZpXD4 b).descriptor? =
    some ⟨.mNOP, .zeroPageX, 2, 4, 0, .undocumented, .f2 .nopZpXD4⟩ := by
  show Sys2Proof.descriptor? 0xD4 = _
  rfl

@[simp] theorem memMode_nopZpXD4 (b : Byte) : memMode (Instr.nopZpXD4 b) = some (.zeroPageX b) := by
  rw [memMode_of_row (descriptor?_nopZpXD4 b)]
  rfl


@[simp] theorem afterFrame_nopZpXD4 (b : Byte) (s : State) : afterFrame (Instr.nopZpXD4 b) s = s.advance 2 4 := by
  rw [afterFrame_of_mode (descriptor?_nopZpXD4 b) (memMode_nopZpXD4 b), frameCycles_zero]

/-! ### cmpZpX -/

@[simp] theorem descriptor?_cmpZpX (b : Byte) : (Instr.cmpZpX b).descriptor? =
    some ⟨.mCMP, .zeroPageX, 2, 4, 0, .documented, .f2 .cmpZpX⟩ := by
  show Sys2Proof.descriptor? 0xD5 = _
  rfl

@[simp] theorem memMode_cmpZpX (b : Byte) : memMode (Instr.cmpZpX b) = some (.zeroPageX b) := by
  rw [memMode_of_row (descriptor?_cmpZpX b)]
  rfl


@[simp] theorem afterFrame_cmpZpX (b : Byte) (s : State) : afterFrame (Instr.cmpZpX b) s = s.advance 2 4 := by
  rw [afterFrame_of_mode (descriptor?_cmpZpX b) (memMode_cmpZpX b), frameCycles_zero]

/-! ### decZpX -/

@[simp] theorem descriptor?_decZpX (b : Byte) : (Instr.decZpX b).descriptor? =
    some ⟨.mDEC, .zeroPageX, 2, 6, 0, .documented, .f2 .decZpX⟩ := by
  show Sys2Proof.descriptor? 0xD6 = _
  rfl

@[simp] theorem memMode_decZpX (b : Byte) : memMode (Instr.decZpX b) = some (.zeroPageX b) := by
  rw [memMode_of_row (descriptor?_decZpX b)]
  rfl


@[simp] theorem afterFrame_decZpX (b : Byte) (s : State) : afterFrame (Instr.decZpX b) s = s.advance 2 6 := by
  rw [afterFrame_of_mode (descriptor?_decZpX b) (memMode_decZpX b), frameCycles_zero]

/-! ### dcpZpX -/

@[simp] theorem descriptor?_dcpZpX (b : Byte) : (Instr.dcpZpX b).descriptor? =
    some ⟨.mDCP, .zeroPageX, 2, 6, 0, .undocumented, .f2 .dcpZpX⟩ := by
  show Sys2Proof.descriptor? 0xD7 = _
  rfl

@[simp] theorem memMode_dcpZpX (b : Byte) : memMode (Instr.dcpZpX b) = some (.zeroPageX b) := by
  rw [memMode_of_row (descriptor?_dcpZpX b)]
  rfl


@[simp] theorem afterFrame_dcpZpX (b : Byte) (s : State) : afterFrame (Instr.dcpZpX b) s = s.advance 2 6 := by
  rw [afterFrame_of_mode (descriptor?_dcpZpX b) (memMode_dcpZpX b), frameCycles_zero]

/-! ### cld -/

@[simp] theorem descriptor?_cld : Instr.cld.descriptor? =
    some ⟨.mCLD, .implied, 1, 2, 0, .documented, .f1 .cld⟩ := by
  show Sys2Proof.descriptor? 0xD8 = _
  rfl

@[simp] theorem memMode_cld : memMode Instr.cld = none := by
  rw [memMode_of_row (descriptor?_cld)]
  rfl

@[simp] theorem afterFrame_cld (s : State) : afterFrame Instr.cld s = s.advance 1 2 :=
  afterFrame_of_none (descriptor?_cld) (memMode_cld) s

/-! ### cmpAbsY -/

@[simp] theorem descriptor?_cmpAbsY (w : Word) : (Instr.cmpAbsY w).descriptor? =
    some ⟨.mCMP, .absoluteY, 3, 4, 1, .documented, .f3 .cmpAbsY⟩ := by
  show Sys2Proof.descriptor? 0xD9 = _
  rfl

@[simp] theorem memMode_cmpAbsY (w : Word) : memMode (Instr.cmpAbsY w) = some (.absoluteY w) := by
  rw [memMode_of_row (descriptor?_cmpAbsY w)]
  exact congrArg (fun a => some (AddrMode.absoluteY a)) (wordOf_high_low w)


@[simp] theorem afterFrame_cmpAbsY (w : Word) (s : State) : afterFrame (Instr.cmpAbsY w) s =
    s.advance 3 (frameCycles 4 1 (resolve (.absoluteY w) s)) :=
  afterFrame_of_mode (descriptor?_cmpAbsY w) (memMode_cmpAbsY w) s

/-! ### nopImpDA -/

@[simp] theorem descriptor?_nopImpDA : Instr.nopImpDA.descriptor? =
    some ⟨.mNOP, .implied, 1, 2, 0, .undocumented, .f1 .nopImpDA⟩ := by
  show Sys2Proof.descriptor? 0xDA = _
  rfl

@[simp] theorem memMode_nopImpDA : memMode Instr.nopImpDA = none := by
  rw [memMode_of_row (descriptor?_nopImpDA)]
  rfl

@[simp] theorem afterFrame_nopImpDA (s : State) : afterFrame Instr.nopImpDA s = s.advance 1 2 :=
  afterFrame_of_none (descriptor?_nopImpDA) (memMode_nopImpDA) s

/-! ### dcpAbsY -/

@[simp] theorem descriptor?_dcpAbsY (w : Word) : (Instr.dcpAbsY w).descriptor? =
    some ⟨.mDCP, .absoluteY, 3, 7, 0, .undocumented, .f3 .dcpAbsY⟩ := by
  show Sys2Proof.descriptor? 0xDB = _
  rfl

@[simp] theorem memMode_dcpAbsY (w : Word) : memMode (Instr.dcpAbsY w) = some (.absoluteY w) := by
  rw [memMode_of_row (descriptor?_dcpAbsY w)]
  exact congrArg (fun a => some (AddrMode.absoluteY a)) (wordOf_high_low w)


@[simp] theorem afterFrame_dcpAbsY (w : Word) (s : State) : afterFrame (Instr.dcpAbsY w) s = s.advance 3 7 := by
  rw [afterFrame_of_mode (descriptor?_dcpAbsY w) (memMode_dcpAbsY w), frameCycles_zero]

/-! ### nopAbsXDC -/

@[simp] theorem descriptor?_nopAbsXDC (w : Word) : (Instr.nopAbsXDC w).descriptor? =
    some ⟨.mNOP, .absoluteX, 3, 4, 1, .undocumented, .f3 .nopAbsXDC⟩ := by
  show Sys2Proof.descriptor? 0xDC = _
  rfl

@[simp] theorem memMode_nopAbsXDC (w : Word) : memMode (Instr.nopAbsXDC w) = some (.absoluteX w) := by
  rw [memMode_of_row (descriptor?_nopAbsXDC w)]
  exact congrArg (fun a => some (AddrMode.absoluteX a)) (wordOf_high_low w)


@[simp] theorem afterFrame_nopAbsXDC (w : Word) (s : State) : afterFrame (Instr.nopAbsXDC w) s =
    s.advance 3 (frameCycles 4 1 (resolve (.absoluteX w) s)) :=
  afterFrame_of_mode (descriptor?_nopAbsXDC w) (memMode_nopAbsXDC w) s

/-! ### cmpAbsX -/

@[simp] theorem descriptor?_cmpAbsX (w : Word) : (Instr.cmpAbsX w).descriptor? =
    some ⟨.mCMP, .absoluteX, 3, 4, 1, .documented, .f3 .cmpAbsX⟩ := by
  show Sys2Proof.descriptor? 0xDD = _
  rfl

@[simp] theorem memMode_cmpAbsX (w : Word) : memMode (Instr.cmpAbsX w) = some (.absoluteX w) := by
  rw [memMode_of_row (descriptor?_cmpAbsX w)]
  exact congrArg (fun a => some (AddrMode.absoluteX a)) (wordOf_high_low w)


@[simp] theorem afterFrame_cmpAbsX (w : Word) (s : State) : afterFrame (Instr.cmpAbsX w) s =
    s.advance 3 (frameCycles 4 1 (resolve (.absoluteX w) s)) :=
  afterFrame_of_mode (descriptor?_cmpAbsX w) (memMode_cmpAbsX w) s

/-! ### decAbsX -/

@[simp] theorem descriptor?_decAbsX (w : Word) : (Instr.decAbsX w).descriptor? =
    some ⟨.mDEC, .absoluteX, 3, 7, 0, .documented, .f3 .decAbsX⟩ := by
  show Sys2Proof.descriptor? 0xDE = _
  rfl

@[simp] theorem memMode_decAbsX (w : Word) : memMode (Instr.decAbsX w) = some (.absoluteX w) := by
  rw [memMode_of_row (descriptor?_decAbsX w)]
  exact congrArg (fun a => some (AddrMode.absoluteX a)) (wordOf_high_low w)


@[simp] theorem afterFrame_decAbsX (w : Word) (s : State) : afterFrame (Instr.decAbsX w) s = s.advance 3 7 := by
  rw [afterFrame_of_mode (descriptor?_decAbsX w) (memMode_decAbsX w), frameCycles_zero]

/-! ### dcpAbsX -/

@[simp] theorem descriptor?_dcpAbsX (w : Word) : (Instr.dcpAbsX w).descriptor? =
    some ⟨.mDCP, .absoluteX, 3, 7, 0, .undocumented, .f3 .dcpAbsX⟩ := by
  show Sys2Proof.descriptor? 0xDF = _
  rfl

@[simp] theorem memMode_dcpAbsX (w : Word) : memMode (Instr.dcpAbsX w) = some (.absoluteX w) := by
  rw [memMode_of_row (descriptor?_dcpAbsX w)]
  exact congrArg (fun a => some (AddrMode.absoluteX a)) (wordOf_high_low w)


@[simp] theorem afterFrame_dcpAbsX (w : Word) (s : State) : afterFrame (Instr.dcpAbsX w) s = s.advance 3 7 := by
  rw [afterFrame_of_mode (descriptor?_dcpAbsX w) (memMode_dcpAbsX w), frameCycles_zero]

/-! ### cpxImm -/

@[simp] theorem descriptor?_cpxImm (b : Byte) : (Instr.cpxImm b).descriptor? =
    some ⟨.mCPX, .immediate, 2, 2, 0, .documented, .f2 .cpxImm⟩ := by
  show Sys2Proof.descriptor? 0xE0 = _
  rfl

@[simp] theorem memMode_cpxImm (b : Byte) : memMode (Instr.cpxImm b) = none := by
  rw [memMode_of_row (descriptor?_cpxImm b)]
  rfl

@[simp] theorem afterFrame_cpxImm (b : Byte) (s : State) : afterFrame (Instr.cpxImm b) s = s.advance 2 2 :=
  afterFrame_of_none (descriptor?_cpxImm b) (memMode_cpxImm b) s

/-! ### sbcIndX -/

@[simp] theorem descriptor?_sbcIndX (b : Byte) : (Instr.sbcIndX b).descriptor? =
    some ⟨.mSBC, .indexedIndirect, 2, 6, 0, .documented, .f2 .sbcIndX⟩ := by
  show Sys2Proof.descriptor? 0xE1 = _
  rfl

@[simp] theorem memMode_sbcIndX (b : Byte) : memMode (Instr.sbcIndX b) = some (.indexedIndirect b) := by
  rw [memMode_of_row (descriptor?_sbcIndX b)]
  rfl


@[simp] theorem afterFrame_sbcIndX (b : Byte) (s : State) : afterFrame (Instr.sbcIndX b) s = s.advance 2 6 := by
  rw [afterFrame_of_mode (descriptor?_sbcIndX b) (memMode_sbcIndX b), frameCycles_zero]

/-! ### nopImmE2 -/

@[simp] theorem descriptor?_nopImmE2 (b : Byte) : (Instr.nopImmE2 b).descriptor? =
    some ⟨.mNOP, .immediate, 2, 2, 0, .undocumented, .f2 .nopImmE2⟩ := by
  show Sys2Proof.descriptor? 0xE2 = _
  rfl

@[simp] theorem memMode_nopImmE2 (b : Byte) : memMode (Instr.nopImmE2 b) = none := by
  rw [memMode_of_row (descriptor?_nopImmE2 b)]
  rfl

@[simp] theorem afterFrame_nopImmE2 (b : Byte) (s : State) : afterFrame (Instr.nopImmE2 b) s = s.advance 2 2 :=
  afterFrame_of_none (descriptor?_nopImmE2 b) (memMode_nopImmE2 b) s

/-! ### isbIndX -/

@[simp] theorem descriptor?_isbIndX (b : Byte) : (Instr.isbIndX b).descriptor? =
    some ⟨.mISB, .indexedIndirect, 2, 8, 0, .undocumented, .f2 .isbIndX⟩ := by
  show Sys2Proof.descriptor? 0xE3 = _
  rfl

@[simp] theorem memMode_isbIndX (b : Byte) : memMode (Instr.isbIndX b) = some (.indexedIndirect b) := by
  rw [memMode_of_row (descriptor?_isbIndX b)]
  rfl


@[simp] theorem afterFrame_isbIndX (b : Byte) (s : State) : afterFrame (Instr.isbIndX b) s = s.advance 2 8 := by
  rw [afterFrame_of_mode (descriptor?_isbIndX b) (memMode_isbIndX b), frameCycles_zero]

/-! ### cpxZp -/

@[simp] theorem descriptor?_cpxZp (b : Byte) : (Instr.cpxZp b).descriptor? =
    some ⟨.mCPX, .zeroPage, 2, 3, 0, .documented, .f2 .cpxZp⟩ := by
  show Sys2Proof.descriptor? 0xE4 = _
  rfl

@[simp] theorem memMode_cpxZp (b : Byte) : memMode (Instr.cpxZp b) = some (.zeroPage b) := by
  rw [memMode_of_row (descriptor?_cpxZp b)]
  rfl


@[simp] theorem afterFrame_cpxZp (b : Byte) (s : State) : afterFrame (Instr.cpxZp b) s = s.advance 2 3 := by
  rw [afterFrame_of_mode (descriptor?_cpxZp b) (memMode_cpxZp b), frameCycles_zero]

/-! ### sbcZp -/

@[simp] theorem descriptor?_sbcZp (b : Byte) : (Instr.sbcZp b).descriptor? =
    some ⟨.mSBC, .zeroPage, 2, 3, 0, .documented, .f2 .sbcZp⟩ := by
  show Sys2Proof.descriptor? 0xE5 = _
  rfl

@[simp] theorem memMode_sbcZp (b : Byte) : memMode (Instr.sbcZp b) = some (.zeroPage b) := by
  rw [memMode_of_row (descriptor?_sbcZp b)]
  rfl


@[simp] theorem afterFrame_sbcZp (b : Byte) (s : State) : afterFrame (Instr.sbcZp b) s = s.advance 2 3 := by
  rw [afterFrame_of_mode (descriptor?_sbcZp b) (memMode_sbcZp b), frameCycles_zero]

/-! ### incZp -/

@[simp] theorem descriptor?_incZp (b : Byte) : (Instr.incZp b).descriptor? =
    some ⟨.mINC, .zeroPage, 2, 5, 0, .documented, .f2 .incZp⟩ := by
  show Sys2Proof.descriptor? 0xE6 = _
  rfl

@[simp] theorem memMode_incZp (b : Byte) : memMode (Instr.incZp b) = some (.zeroPage b) := by
  rw [memMode_of_row (descriptor?_incZp b)]
  rfl


@[simp] theorem afterFrame_incZp (b : Byte) (s : State) : afterFrame (Instr.incZp b) s = s.advance 2 5 := by
  rw [afterFrame_of_mode (descriptor?_incZp b) (memMode_incZp b), frameCycles_zero]

/-! ### isbZp -/

@[simp] theorem descriptor?_isbZp (b : Byte) : (Instr.isbZp b).descriptor? =
    some ⟨.mISB, .zeroPage, 2, 5, 0, .undocumented, .f2 .isbZp⟩ := by
  show Sys2Proof.descriptor? 0xE7 = _
  rfl

@[simp] theorem memMode_isbZp (b : Byte) : memMode (Instr.isbZp b) = some (.zeroPage b) := by
  rw [memMode_of_row (descriptor?_isbZp b)]
  rfl


@[simp] theorem afterFrame_isbZp (b : Byte) (s : State) : afterFrame (Instr.isbZp b) s = s.advance 2 5 := by
  rw [afterFrame_of_mode (descriptor?_isbZp b) (memMode_isbZp b), frameCycles_zero]

/-! ### inx -/

@[simp] theorem descriptor?_inx : Instr.inx.descriptor? =
    some ⟨.mINX, .implied, 1, 2, 0, .documented, .f1 .inx⟩ := by
  show Sys2Proof.descriptor? 0xE8 = _
  rfl

@[simp] theorem memMode_inx : memMode Instr.inx = none := by
  rw [memMode_of_row (descriptor?_inx)]
  rfl

@[simp] theorem afterFrame_inx (s : State) : afterFrame Instr.inx s = s.advance 1 2 :=
  afterFrame_of_none (descriptor?_inx) (memMode_inx) s

/-! ### sbcImm -/

@[simp] theorem descriptor?_sbcImm (b : Byte) : (Instr.sbcImm b).descriptor? =
    some ⟨.mSBC, .immediate, 2, 2, 0, .documented, .f2 .sbcImm⟩ := by
  show Sys2Proof.descriptor? 0xE9 = _
  rfl

@[simp] theorem memMode_sbcImm (b : Byte) : memMode (Instr.sbcImm b) = none := by
  rw [memMode_of_row (descriptor?_sbcImm b)]
  rfl

@[simp] theorem afterFrame_sbcImm (b : Byte) (s : State) : afterFrame (Instr.sbcImm b) s = s.advance 2 2 :=
  afterFrame_of_none (descriptor?_sbcImm b) (memMode_sbcImm b) s

/-! ### nop -/

@[simp] theorem descriptor?_nop : Instr.nop.descriptor? =
    some ⟨.mNOP, .implied, 1, 2, 0, .documented, .f1 .nop⟩ := by
  show Sys2Proof.descriptor? 0xEA = _
  rfl

@[simp] theorem memMode_nop : memMode Instr.nop = none := by
  rw [memMode_of_row (descriptor?_nop)]
  rfl

@[simp] theorem afterFrame_nop (s : State) : afterFrame Instr.nop s = s.advance 1 2 :=
  afterFrame_of_none (descriptor?_nop) (memMode_nop) s

/-! ### sbcImmEB -/

@[simp] theorem descriptor?_sbcImmEB (b : Byte) : (Instr.sbcImmEB b).descriptor? =
    some ⟨.mSBC, .immediate, 2, 2, 0, .undocumented, .f2 .sbcImmEB⟩ := by
  show Sys2Proof.descriptor? 0xEB = _
  rfl

@[simp] theorem memMode_sbcImmEB (b : Byte) : memMode (Instr.sbcImmEB b) = none := by
  rw [memMode_of_row (descriptor?_sbcImmEB b)]
  rfl

@[simp] theorem afterFrame_sbcImmEB (b : Byte) (s : State) : afterFrame (Instr.sbcImmEB b) s = s.advance 2 2 :=
  afterFrame_of_none (descriptor?_sbcImmEB b) (memMode_sbcImmEB b) s

/-! ### cpxAbs -/

@[simp] theorem descriptor?_cpxAbs (w : Word) : (Instr.cpxAbs w).descriptor? =
    some ⟨.mCPX, .absolute, 3, 4, 0, .documented, .f3 .cpxAbs⟩ := by
  show Sys2Proof.descriptor? 0xEC = _
  rfl

@[simp] theorem memMode_cpxAbs (w : Word) : memMode (Instr.cpxAbs w) = some (.absolute w) := by
  rw [memMode_of_row (descriptor?_cpxAbs w)]
  exact congrArg (fun a => some (AddrMode.absolute a)) (wordOf_high_low w)


@[simp] theorem afterFrame_cpxAbs (w : Word) (s : State) : afterFrame (Instr.cpxAbs w) s = s.advance 3 4 := by
  rw [afterFrame_of_mode (descriptor?_cpxAbs w) (memMode_cpxAbs w), frameCycles_zero]

/-! ### sbcAbs -/

@[simp] theorem descriptor?_sbcAbs (w : Word) : (Instr.sbcAbs w).descriptor? =
    some ⟨.mSBC, .absolute, 3, 4, 0, .documented, .f3 .sbcAbs⟩ := by
  show Sys2Proof.descriptor? 0xED = _
  rfl

@[simp] theorem memMode_sbcAbs (w : Word) : memMode (Instr.sbcAbs w) = some (.absolute w) := by
  rw [memMode_of_row (descriptor?_sbcAbs w)]
  exact congrArg (fun a => some (AddrMode.absolute a)) (wordOf_high_low w)


@[simp] theorem afterFrame_sbcAbs (w : Word) (s : State) : afterFrame (Instr.sbcAbs w) s = s.advance 3 4 := by
  rw [afterFrame_of_mode (descriptor?_sbcAbs w) (memMode_sbcAbs w), frameCycles_zero]

/-! ### incAbs -/

@[simp] theorem descriptor?_incAbs (w : Word) : (Instr.incAbs w).descriptor? =
    some ⟨.mINC, .absolute, 3, 6, 0, .documented, .f3 .incAbs⟩ := by
  show Sys2Proof.descriptor? 0xEE = _
  rfl

@[simp] theorem memMode_incAbs (w : Word) : memMode (Instr.incAbs w) = some (.absolute w) := by
  rw [memMode_of_row (descriptor?_incAbs w)]
  exact congrArg (fun a => some (AddrMode.absolute a)) (wordOf_high_low w)


@[simp] theorem afterFrame_incAbs (w : Word) (s : State) : afterFrame (Instr.incAbs w) s = s.advance 3 6 := by
  rw [afterFrame_of_mode (descriptor?_incAbs w) (memMode_incAbs w), frameCycles_zero]

/-! ### isbAbs -/

@[simp] theorem descriptor?_isbAbs (w : Word) : (Instr.isbAbs w).descriptor? =
    some ⟨.mISB, .absolute, 3, 6, 0, .undocumented, .f3 .isbAbs⟩ := by
  show Sys2Proof.descriptor? 0xEF = _
  rfl

@[simp] theorem memMode_isbAbs (w : Word) : memMode (Instr.isbAbs w) = some (.absolute w) := by
  rw [memMode_of_row (descriptor?_isbAbs w)]
  exact congrArg (fun a => some (AddrMode.absolute a)) (wordOf_high_low w)


@[simp] theorem afterFrame_isbAbs (w : Word) (s : State) : afterFrame (Instr.isbAbs w) s = s.advance 3 6 := by
  rw [afterFrame_of_mode (descriptor?_isbAbs w) (memMode_isbAbs w), frameCycles_zero]

/-! ### beq -/

@[simp] theorem descriptor?_beq (off : Int) : (Instr.beq off).descriptor? =
    some ⟨.mBEQ, .relative, 2, 2, 0, .documented, .f2 fun b => .beq b.toInt⟩ := by
  show Sys2Proof.descriptor? 0xF0 = _
  rfl

@[simp] theorem memMode_beq (off : Int) : memMode (Instr.beq off) = none := by
  rw [memMode_of_row (descriptor?_beq off)]
  rfl

@[simp] theorem afterFrame_beq (off : Int) (s : State) : afterFrame (Instr.beq off) s = s.advance 2 2 :=
  afterFrame_of_none (descriptor?_beq off) (memMode_beq off) s

/-! ### sbcIndY -/

@[simp] theorem descriptor?_sbcIndY (b : Byte) : (Instr.sbcIndY b).descriptor? =
    some ⟨.mSBC, .indirectIndexed, 2, 5, 1, .documented, .f2 .sbcIndY⟩ := by
  show Sys2Proof.descriptor? 0xF1 = _
  rfl

@[simp] theorem memMode_sbcIndY (b : Byte) : memMode (Instr.sbcIndY b) = some (.indirectIndexed b) := by
  rw [memMode_of_row (descriptor?_sbcIndY b)]
  rfl


@[simp] theorem afterFrame_sbcIndY (b : Byte) (s : State) : afterFrame (Instr.sbcIndY b) s =
    s.advance 2 (frameCycles 5 1 (resolve (.indirectIndexed b) s)) :=
  afterFrame_of_mode (descriptor?_sbcIndY b) (memMode_sbcIndY b) s

/-! ### jamF2 -/

@[simp] theorem descriptor?_jamF2 : Instr.jamF2.descriptor? =
    some ⟨.mJAM, .implied, 1, 2, 0, .undocumented, .f1 .jamF2⟩ := by
  show Sys2Proof.descriptor? 0xF2 = _
  rfl

@[simp] theorem memMode_jamF2 : memMode Instr.jamF2 = none := by
  rw [memMode_of_row (descriptor?_jamF2)]
  rfl

@[simp] theorem afterFrame_jamF2 (s : State) : afterFrame Instr.jamF2 s = s.advance 1 2 :=
  afterFrame_of_none (descriptor?_jamF2) (memMode_jamF2) s

/-! ### isbIndY -/

@[simp] theorem descriptor?_isbIndY (b : Byte) : (Instr.isbIndY b).descriptor? =
    some ⟨.mISB, .indirectIndexed, 2, 8, 0, .undocumented, .f2 .isbIndY⟩ := by
  show Sys2Proof.descriptor? 0xF3 = _
  rfl

@[simp] theorem memMode_isbIndY (b : Byte) : memMode (Instr.isbIndY b) = some (.indirectIndexed b) := by
  rw [memMode_of_row (descriptor?_isbIndY b)]
  rfl


@[simp] theorem afterFrame_isbIndY (b : Byte) (s : State) : afterFrame (Instr.isbIndY b) s = s.advance 2 8 := by
  rw [afterFrame_of_mode (descriptor?_isbIndY b) (memMode_isbIndY b), frameCycles_zero]

/-! ### nopZpXF4 -/

@[simp] theorem descriptor?_nopZpXF4 (b : Byte) : (Instr.nopZpXF4 b).descriptor? =
    some ⟨.mNOP, .zeroPageX, 2, 4, 0, .undocumented, .f2 .nopZpXF4⟩ := by
  show Sys2Proof.descriptor? 0xF4 = _
  rfl

@[simp] theorem memMode_nopZpXF4 (b : Byte) : memMode (Instr.nopZpXF4 b) = some (.zeroPageX b) := by
  rw [memMode_of_row (descriptor?_nopZpXF4 b)]
  rfl


@[simp] theorem afterFrame_nopZpXF4 (b : Byte) (s : State) : afterFrame (Instr.nopZpXF4 b) s = s.advance 2 4 := by
  rw [afterFrame_of_mode (descriptor?_nopZpXF4 b) (memMode_nopZpXF4 b), frameCycles_zero]

/-! ### sbcZpX -/

@[simp] theorem descriptor?_sbcZpX (b : Byte) : (Instr.sbcZpX b).descriptor? =
    some ⟨.mSBC, .zeroPageX, 2, 4, 0, .documented, .f2 .sbcZpX⟩ := by
  show Sys2Proof.descriptor? 0xF5 = _
  rfl

@[simp] theorem memMode_sbcZpX (b : Byte) : memMode (Instr.sbcZpX b) = some (.zeroPageX b) := by
  rw [memMode_of_row (descriptor?_sbcZpX b)]
  rfl


@[simp] theorem afterFrame_sbcZpX (b : Byte) (s : State) : afterFrame (Instr.sbcZpX b) s = s.advance 2 4 := by
  rw [afterFrame_of_mode (descriptor?_sbcZpX b) (memMode_sbcZpX b), frameCycles_zero]

/-! ### incZpX -/

@[simp] theorem descriptor?_incZpX (b : Byte) : (Instr.incZpX b).descriptor? =
    some ⟨.mINC, .zeroPageX, 2, 6, 0, .documented, .f2 .incZpX⟩ := by
  show Sys2Proof.descriptor? 0xF6 = _
  rfl

@[simp] theorem memMode_incZpX (b : Byte) : memMode (Instr.incZpX b) = some (.zeroPageX b) := by
  rw [memMode_of_row (descriptor?_incZpX b)]
  rfl


@[simp] theorem afterFrame_incZpX (b : Byte) (s : State) : afterFrame (Instr.incZpX b) s = s.advance 2 6 := by
  rw [afterFrame_of_mode (descriptor?_incZpX b) (memMode_incZpX b), frameCycles_zero]

/-! ### isbZpX -/

@[simp] theorem descriptor?_isbZpX (b : Byte) : (Instr.isbZpX b).descriptor? =
    some ⟨.mISB, .zeroPageX, 2, 6, 0, .undocumented, .f2 .isbZpX⟩ := by
  show Sys2Proof.descriptor? 0xF7 = _
  rfl

@[simp] theorem memMode_isbZpX (b : Byte) : memMode (Instr.isbZpX b) = some (.zeroPageX b) := by
  rw [memMode_of_row (descriptor?_isbZpX b)]
  rfl


@[simp] theorem afterFrame_isbZpX (b : Byte) (s : State) : afterFrame (Instr.isbZpX b) s = s.advance 2 6 := by
  rw [afterFrame_of_mode (descriptor?_isbZpX b) (memMode_isbZpX b), frameCycles_zero]

/-! ### sed -/

@[simp] theorem descriptor?_sed : Instr.sed.descriptor? =
    some ⟨.mSED, .implied, 1, 2, 0, .documented, .f1 .sed⟩ := by
  show Sys2Proof.descriptor? 0xF8 = _
  rfl

@[simp] theorem memMode_sed : memMode Instr.sed = none := by
  rw [memMode_of_row (descriptor?_sed)]
  rfl

@[simp] theorem afterFrame_sed (s : State) : afterFrame Instr.sed s = s.advance 1 2 :=
  afterFrame_of_none (descriptor?_sed) (memMode_sed) s

/-! ### sbcAbsY -/

@[simp] theorem descriptor?_sbcAbsY (w : Word) : (Instr.sbcAbsY w).descriptor? =
    some ⟨.mSBC, .absoluteY, 3, 4, 1, .documented, .f3 .sbcAbsY⟩ := by
  show Sys2Proof.descriptor? 0xF9 = _
  rfl

@[simp] theorem memMode_sbcAbsY (w : Word) : memMode (Instr.sbcAbsY w) = some (.absoluteY w) := by
  rw [memMode_of_row (descriptor?_sbcAbsY w)]
  exact congrArg (fun a => some (AddrMode.absoluteY a)) (wordOf_high_low w)


@[simp] theorem afterFrame_sbcAbsY (w : Word) (s : State) : afterFrame (Instr.sbcAbsY w) s =
    s.advance 3 (frameCycles 4 1 (resolve (.absoluteY w) s)) :=
  afterFrame_of_mode (descriptor?_sbcAbsY w) (memMode_sbcAbsY w) s

/-! ### nopImpFA -/

@[simp] theorem descriptor?_nopImpFA : Instr.nopImpFA.descriptor? =
    some ⟨.mNOP, .implied, 1, 2, 0, .undocumented, .f1 .nopImpFA⟩ := by
  show Sys2Proof.descriptor? 0xFA = _
  rfl

@[simp] theorem memMode_nopImpFA : memMode Instr.nopImpFA = none := by
  rw [memMode_of_row (descriptor?_nopImpFA)]
  rfl

@[simp] theorem afterFrame_nopImpFA (s : State) : afterFrame Instr.nopImpFA s = s.advance 1 2 :=
  afterFrame_of_none (descriptor?_nopImpFA) (memMode_nopImpFA) s

/-! ### isbAbsY -/

@[simp] theorem descriptor?_isbAbsY (w : Word) : (Instr.isbAbsY w).descriptor? =
    some ⟨.mISB, .absoluteY, 3, 7, 0, .undocumented, .f3 .isbAbsY⟩ := by
  show Sys2Proof.descriptor? 0xFB = _
  rfl

@[simp] theorem memMode_isbAbsY (w : Word) : memMode (Instr.isbAbsY w) = some (.absoluteY w) := by
  rw [memMode_of_row (descriptor?_isbAbsY w)]
  exact congrArg (fun a => some (AddrMode.absoluteY a)) (wordOf_high_low w)


@[simp] theorem afterFrame_isbAbsY (w : Word) (s : State) : afterFrame (Instr.isbAbsY w) s = s.advance 3 7 := by
  rw [afterFrame_of_mode (descriptor?_isbAbsY w) (memMode_isbAbsY w), frameCycles_zero]

/-! ### nopAbsXFC -/

@[simp] theorem descriptor?_nopAbsXFC (w : Word) : (Instr.nopAbsXFC w).descriptor? =
    some ⟨.mNOP, .absoluteX, 3, 4, 1, .undocumented, .f3 .nopAbsXFC⟩ := by
  show Sys2Proof.descriptor? 0xFC = _
  rfl

@[simp] theorem memMode_nopAbsXFC (w : Word) : memMode (Instr.nopAbsXFC w) = some (.absoluteX w) := by
  rw [memMode_of_row (descriptor?_nopAbsXFC w)]
  exact congrArg (fun a => some (AddrMode.absoluteX a)) (wordOf_high_low w)


@[simp] theorem afterFrame_nopAbsXFC (w : Word) (s : State) : afterFrame (Instr.nopAbsXFC w) s =
    s.advance 3 (frameCycles 4 1 (resolve (.absoluteX w) s)) :=
  afterFrame_of_mode (descriptor?_nopAbsXFC w) (memMode_nopAbsXFC w) s

/-! ### sbcAbsX -/

@[simp] theorem descriptor?_sbcAbsX (w : Word) : (Instr.sbcAbsX w).descriptor? =
    some ⟨.mSBC, .absoluteX, 3, 4, 1, .documented, .f3 .sbcAbsX⟩ := by
  show Sys2Proof.descriptor? 0xFD = _
  rfl

@[simp] theorem memMode_sbcAbsX (w : Word) : memMode (Instr.sbcAbsX w) = some (.absoluteX w) := by
  rw [memMode_of_row (descriptor?_sbcAbsX w)]
  exact congrArg (fun a => some (AddrMode.absoluteX a)) (wordOf_high_low w)


@[simp] theorem afterFrame_sbcAbsX (w : Word) (s : State) : afterFrame (Instr.sbcAbsX w) s =
    s.advance 3 (frameCycles 4 1 (resolve (.absoluteX w) s)) :=
  afterFrame_of_mode (descriptor?_sbcAbsX w) (memMode_sbcAbsX w) s

/-! ### incAbsX -/

@[simp] theorem descriptor?_incAbsX (w : Word) : (Instr.incAbsX w).descriptor? =
    some ⟨.mINC, .absoluteX, 3, 7, 0, .documented, .f3 .incAbsX⟩ := by
  show Sys2Proof.descriptor? 0xFE = _
  rfl

@[simp] theorem memMode_incAbsX (w : Word) : memMode (Instr.incAbsX w) = some (.absoluteX w) := by
  rw [memMode_of_row (descriptor?_incAbsX w)]
  exact congrArg (fun a => some (AddrMode.absoluteX a)) (wordOf_high_low w)


@[simp] theorem afterFrame_incAbsX (w : Word) (s : State) : afterFrame (Instr.incAbsX w) s = s.advance 3 7 := by
  rw [afterFrame_of_mode (descriptor?_incAbsX w) (memMode_incAbsX w), frameCycles_zero]

/-! ### isbAbsX -/

@[simp] theorem descriptor?_isbAbsX (w : Word) : (Instr.isbAbsX w).descriptor? =
    some ⟨.mISB, .absoluteX, 3, 7, 0, .undocumented, .f3 .isbAbsX⟩ := by
  show Sys2Proof.descriptor? 0xFF = _
  rfl

@[simp] theorem memMode_isbAbsX (w : Word) : memMode (Instr.isbAbsX w) = some (.absoluteX w) := by
  rw [memMode_of_row (descriptor?_isbAbsX w)]
  exact congrArg (fun a => some (AddrMode.absoluteX a)) (wordOf_high_low w)


@[simp] theorem afterFrame_isbAbsX (w : Word) (s : State) : afterFrame (Instr.isbAbsX w) s = s.advance 3 7 := by
  rw [afterFrame_of_mode (descriptor?_isbAbsX w) (memMode_isbAbsX w), frameCycles_zero]

end Sys2Proof.Machine
end

