-- ==== Sys2Proof/Laws/Forms.lean ====
section
/-! SUPPORT. Every instruction runs in one of a few frames with one of a few handlers: `exec_form`. A claim about all 256
instructions is then a claim about each frame and each handler. -/

namespace Sys2Proof.Machine

/-- The handlers of instructions with no operand. -/
inductive ImpliedOp : (State → State) → Prop
  | tax : ImpliedOp taxOp | tay : ImpliedOp tayOp | txa : ImpliedOp txaOp | tya : ImpliedOp tyaOp
  | tsx : ImpliedOp tsxOp | txs : ImpliedOp txsOp
  | inx : ImpliedOp inxOp | iny : ImpliedOp inyOp | dex : ImpliedOp dexOp | dey : ImpliedOp deyOp
  | pha : ImpliedOp phaOp | php : ImpliedOp phpOp | pla : ImpliedOp plaOp | plp : ImpliedOp plpOp
  | rts : ImpliedOp rtsOp | rti : ImpliedOp returnFromInterrupt
  | clc : ImpliedOp clcOp | sec : ImpliedOp secOp | cli : ImpliedOp cliOp | sei : ImpliedOp seiOp
  | cld : ImpliedOp cldOp | sed : ImpliedOp sedOp | clv : ImpliedOp clvOp | nop : ImpliedOp nopOp

/-- The handlers that take an operand byte. -/
inductive ReadOp : (Byte → State → State) → Prop
  | lda : ReadOp loadA | ldx : ReadOp loadX | ldy : ReadOp loadY
  | adc : ReadOp addM | sbc : ReadOp subM | and : ReadOp andAcc | ora : ReadOp orAcc | eor : ReadOp eorAcc
  | cmp : ReadOp cmpM | cpx : ReadOp cpxM | cpy : ReadOp cpyM | bit : ReadOp bitM
  | lax : ReadOp laxM | las : ReadOp lasM | nop : ReadOp nopM
  | anc : ReadOp ancM | alr : ReadOp alrM | arr : ReadOp arrM | axs : ReadOp axsM
  | xaa : ReadOp xaaM | lxa : ReadOp lxaM

/-- The handlers that give a byte to store. -/
inductive StoreOp : (State → Byte) → Prop
  | sta : StoreOp storedA | stx : StoreOp storedX | sty : StoreOp storedY | sax : StoreOp storedAX

/-- The handlers that turn the byte read into the byte written. -/
inductive ModifyOp : (Byte → State → Byte × State) → Prop
  | asl : ModifyOp asl | lsr : ModifyOp lsr | rol : ModifyOp rol | ror : ModifyOp ror
  | inc : ModifyOp incV | dec : ModifyOp decV

/-- The handlers that run after the write of a read-modify-write instruction. -/
inductive AfterOp : (Byte → State → State) → Prop
  | zn : AfterOp afterRmw | ora : AfterOp orAcc | and : AfterOp andAcc | eor : AfterOp eorAcc
  | adc : AfterOp addM | sbc : AfterOp subM | cmp : AfterOp cmpM

/-- The handlers of the four stores whose value holds `H`. -/
inductive HighOp : (Byte → State → Byte × State) → Prop
  | ahx : HighOp ahxStore | tas : HighOp tasStore | shy : HighOp shyStore | shx : HighOp shxStore

/-- The frames, each with the bounds of its row's cycles. -/
inductive ExecForm : (State → Outcome) → Prop
  | implied {f : State → State} (n c : Nat) : 2 ≤ c ∧ c ≤ 8 → ImpliedOp f → ExecForm (impliedInstr n c f)
  | imm {f : Byte → State → State} (n c : Nat) (b : Byte) : 2 ≤ c ∧ c ≤ 8 → ReadOp f → ExecForm (immInstr n c f b)
  | acc {f : Byte → State → Byte × State} (n c : Nat) : 2 ≤ c ∧ c ≤ 8 → ModifyOp f → ExecForm (accInstr n c f)
  | read {f : Byte → State → State} (n c x : Nat) (m : AddrMode) :
      2 ≤ c ∧ c + x ≤ 8 → ReadOp f → ExecForm (readInstr n c x m f)
  | store {f : State → Byte} (n c : Nat) (m : AddrMode) : 2 ≤ c ∧ c ≤ 8 → StoreOp f → ExecForm (storeInstr n c m f)
  | rmw {f : Byte → State → Byte × State} {g : Byte → State → State} (n c : Nat) (m : AddrMode) :
      2 ≤ c ∧ c ≤ 8 → ModifyOp f → AfterOp g → ExecForm (rmwInstr n c m f g)
  | high {f : Byte → State → Byte × State} (n c : Nat) (m : AddrMode) :
      2 ≤ c ∧ c ≤ 8 → HighOp f → ExecForm (highStoreInstr n c m f)
  | branch (cond : State → Bool) (off : Int) : ExecForm fun s => branchInstr 2 2 (cond s) off s
  | jmp (addr : Word) : ExecForm fun s => .next ((s.advance 3 3).setPc addr)
  | jmpInd (addr : Word) : ExecForm (execJmpInd addr)
  | jsr (addr : Word) : ExecForm (jsrTo 3 6 addr)
  | brk : ExecForm execBrk
  | jam : ExecForm (jamInstr 1 2)
  | unstable {f : State → Outcome} (op : Byte) :
      op ∈ [0x8B#8, 0xAB#8, 0x93#8, 0x9F#8, 0x9B#8, 0x9C#8, 0x9E#8] → ExecForm f → ExecForm (unstableInstr op f)

/-- Every instruction has one of the frames. -/
theorem exec_form (i : Instr) : ExecForm (exec i) := by
  cases i
  case brk => exact .brk
  case oraIndX => exact .read 2 6 0 (.indexedIndirect _) (by decide) .ora
  case jam02 => exact .jam
  case sloIndX => exact .rmw 2 8 (.indexedIndirect _) (by decide) .asl .ora
  case nopZp04 => exact .read 2 3 0 (.zeroPage _) (by decide) .nop
  case oraZp => exact .read 2 3 0 (.zeroPage _) (by decide) .ora
  case aslZp => exact .rmw 2 5 (.zeroPage _) (by decide) .asl .zn
  case sloZp => exact .rmw 2 5 (.zeroPage _) (by decide) .asl .ora
  case php => exact .implied 1 3 (by decide) .php
  case oraImm => exact .imm 2 2 _ (by decide) .ora
  case aslAcc => exact .acc 1 2 (by decide) .asl
  case ancImm0B => exact .imm 2 2 _ (by decide) .anc
  case nopAbs => exact .read 3 4 0 (.absolute _) (by decide) .nop
  case oraAbs => exact .read 3 4 0 (.absolute _) (by decide) .ora
  case aslAbs => exact .rmw 3 6 (.absolute _) (by decide) .asl .zn
  case sloAbs => exact .rmw 3 6 (.absolute _) (by decide) .asl .ora
  case bpl => exact .branch (fun s => !s.p.n) _
  case oraIndY => exact .read 2 5 1 (.indirectIndexed _) (by decide) .ora
  case jam12 => exact .jam
  case sloIndY => exact .rmw 2 8 (.indirectIndexed _) (by decide) .asl .ora
  case nopZpX14 => exact .read 2 4 0 (.zeroPageX _) (by decide) .nop
  case oraZpX => exact .read 2 4 0 (.zeroPageX _) (by decide) .ora
  case aslZpX => exact .rmw 2 6 (.zeroPageX _) (by decide) .asl .zn
  case sloZpX => exact .rmw 2 6 (.zeroPageX _) (by decide) .asl .ora
  case clc => exact .implied 1 2 (by decide) .clc
  case oraAbsY => exact .read 3 4 1 (.absoluteY _) (by decide) .ora
  case nopImp1A => exact .implied 1 2 (by decide) .nop
  case sloAbsY => exact .rmw 3 7 (.absoluteY _) (by decide) .asl .ora
  case nopAbsX1C => exact .read 3 4 1 (.absoluteX _) (by decide) .nop
  case oraAbsX => exact .read 3 4 1 (.absoluteX _) (by decide) .ora
  case aslAbsX => exact .rmw 3 7 (.absoluteX _) (by decide) .asl .zn
  case sloAbsX => exact .rmw 3 7 (.absoluteX _) (by decide) .asl .ora
  case jsrAbs => exact .jsr _
  case andIndX => exact .read 2 6 0 (.indexedIndirect _) (by decide) .and
  case jam22 => exact .jam
  case rlaIndX => exact .rmw 2 8 (.indexedIndirect _) (by decide) .rol .and
  case bitZp => exact .read 2 3 0 (.zeroPage _) (by decide) .bit
  case andZp => exact .read 2 3 0 (.zeroPage _) (by decide) .and
  case rolZp => exact .rmw 2 5 (.zeroPage _) (by decide) .rol .zn
  case rlaZp => exact .rmw 2 5 (.zeroPage _) (by decide) .rol .and
  case plp => exact .implied 1 4 (by decide) .plp
  case andImm => exact .imm 2 2 _ (by decide) .and
  case rolAcc => exact .acc 1 2 (by decide) .rol
  case ancImm2B => exact .imm 2 2 _ (by decide) .anc
  case bitAbs => exact .read 3 4 0 (.absolute _) (by decide) .bit
  case andAbs => exact .read 3 4 0 (.absolute _) (by decide) .and
  case rolAbs => exact .rmw 3 6 (.absolute _) (by decide) .rol .zn
  case rlaAbs => exact .rmw 3 6 (.absolute _) (by decide) .rol .and
  case bmi => exact .branch (fun s => s.p.n) _
  case andIndY => exact .read 2 5 1 (.indirectIndexed _) (by decide) .and
  case jam32 => exact .jam
  case rlaIndY => exact .rmw 2 8 (.indirectIndexed _) (by decide) .rol .and
  case nopZpX34 => exact .read 2 4 0 (.zeroPageX _) (by decide) .nop
  case andZpX => exact .read 2 4 0 (.zeroPageX _) (by decide) .and
  case rolZpX => exact .rmw 2 6 (.zeroPageX _) (by decide) .rol .zn
  case rlaZpX => exact .rmw 2 6 (.zeroPageX _) (by decide) .rol .and
  case sec => exact .implied 1 2 (by decide) .sec
  case andAbsY => exact .read 3 4 1 (.absoluteY _) (by decide) .and
  case nopImp3A => exact .implied 1 2 (by decide) .nop
  case rlaAbsY => exact .rmw 3 7 (.absoluteY _) (by decide) .rol .and
  case nopAbsX3C => exact .read 3 4 1 (.absoluteX _) (by decide) .nop
  case andAbsX => exact .read 3 4 1 (.absoluteX _) (by decide) .and
  case rolAbsX => exact .rmw 3 7 (.absoluteX _) (by decide) .rol .zn
  case rlaAbsX => exact .rmw 3 7 (.absoluteX _) (by decide) .rol .and
  case rti => exact .implied 1 6 (by decide) .rti
  case eorIndX => exact .read 2 6 0 (.indexedIndirect _) (by decide) .eor
  case jam42 => exact .jam
  case sreIndX => exact .rmw 2 8 (.indexedIndirect _) (by decide) .lsr .eor
  case nopZp44 => exact .read 2 3 0 (.zeroPage _) (by decide) .nop
  case eorZp => exact .read 2 3 0 (.zeroPage _) (by decide) .eor
  case lsrZp => exact .rmw 2 5 (.zeroPage _) (by decide) .lsr .zn
  case sreZp => exact .rmw 2 5 (.zeroPage _) (by decide) .lsr .eor
  case pha => exact .implied 1 3 (by decide) .pha
  case eorImm => exact .imm 2 2 _ (by decide) .eor
  case lsrAcc => exact .acc 1 2 (by decide) .lsr
  case alrImm => exact .imm 2 2 _ (by decide) .alr
  case jmpAbs => exact .jmp _
  case eorAbs => exact .read 3 4 0 (.absolute _) (by decide) .eor
  case lsrAbs => exact .rmw 3 6 (.absolute _) (by decide) .lsr .zn
  case sreAbs => exact .rmw 3 6 (.absolute _) (by decide) .lsr .eor
  case bvc => exact .branch (fun s => !s.p.v) _
  case eorIndY => exact .read 2 5 1 (.indirectIndexed _) (by decide) .eor
  case jam52 => exact .jam
  case sreIndY => exact .rmw 2 8 (.indirectIndexed _) (by decide) .lsr .eor
  case nopZpX54 => exact .read 2 4 0 (.zeroPageX _) (by decide) .nop
  case eorZpX => exact .read 2 4 0 (.zeroPageX _) (by decide) .eor
  case lsrZpX => exact .rmw 2 6 (.zeroPageX _) (by decide) .lsr .zn
  case sreZpX => exact .rmw 2 6 (.zeroPageX _) (by decide) .lsr .eor
  case cli => exact .implied 1 2 (by decide) .cli
  case eorAbsY => exact .read 3 4 1 (.absoluteY _) (by decide) .eor
  case nopImp5A => exact .implied 1 2 (by decide) .nop
  case sreAbsY => exact .rmw 3 7 (.absoluteY _) (by decide) .lsr .eor
  case nopAbsX5C => exact .read 3 4 1 (.absoluteX _) (by decide) .nop
  case eorAbsX => exact .read 3 4 1 (.absoluteX _) (by decide) .eor
  case lsrAbsX => exact .rmw 3 7 (.absoluteX _) (by decide) .lsr .zn
  case sreAbsX => exact .rmw 3 7 (.absoluteX _) (by decide) .lsr .eor
  case rts => exact .implied 1 6 (by decide) .rts
  case adcIndX => exact .read 2 6 0 (.indexedIndirect _) (by decide) .adc
  case jam62 => exact .jam
  case rraIndX => exact .rmw 2 8 (.indexedIndirect _) (by decide) .ror .adc
  case nopZp64 => exact .read 2 3 0 (.zeroPage _) (by decide) .nop
  case adcZp => exact .read 2 3 0 (.zeroPage _) (by decide) .adc
  case rorZp => exact .rmw 2 5 (.zeroPage _) (by decide) .ror .zn
  case rraZp => exact .rmw 2 5 (.zeroPage _) (by decide) .ror .adc
  case pla => exact .implied 1 4 (by decide) .pla
  case adcImm => exact .imm 2 2 _ (by decide) .adc
  case rorAcc => exact .acc 1 2 (by decide) .ror
  case arrImm => exact .imm 2 2 _ (by decide) .arr
  case jmpInd => exact .jmpInd _
  case adcAbs => exact .read 3 4 0 (.absolute _) (by decide) .adc
  case rorAbs => exact .rmw 3 6 (.absolute _) (by decide) .ror .zn
  case rraAbs => exact .rmw 3 6 (.absolute _) (by decide) .ror .adc
  case bvs => exact .branch (fun s => s.p.v) _
  case adcIndY => exact .read 2 5 1 (.indirectIndexed _) (by decide) .adc
  case jam72 => exact .jam
  case rraIndY => exact .rmw 2 8 (.indirectIndexed _) (by decide) .ror .adc
  case nopZpX74 => exact .read 2 4 0 (.zeroPageX _) (by decide) .nop
  case adcZpX => exact .read 2 4 0 (.zeroPageX _) (by decide) .adc
  case rorZpX => exact .rmw 2 6 (.zeroPageX _) (by decide) .ror .zn
  case rraZpX => exact .rmw 2 6 (.zeroPageX _) (by decide) .ror .adc
  case sei => exact .implied 1 2 (by decide) .sei
  case adcAbsY => exact .read 3 4 1 (.absoluteY _) (by decide) .adc
  case nopImp7A => exact .implied 1 2 (by decide) .nop
  case rraAbsY => exact .rmw 3 7 (.absoluteY _) (by decide) .ror .adc
  case nopAbsX7C => exact .read 3 4 1 (.absoluteX _) (by decide) .nop
  case adcAbsX => exact .read 3 4 1 (.absoluteX _) (by decide) .adc
  case rorAbsX => exact .rmw 3 7 (.absoluteX _) (by decide) .ror .zn
  case rraAbsX => exact .rmw 3 7 (.absoluteX _) (by decide) .ror .adc
  case nopImm80 => exact .imm 2 2 _ (by decide) .nop
  case staIndX => exact .store 2 6 (.indexedIndirect _) (by decide) .sta
  case nopImm82 => exact .imm 2 2 _ (by decide) .nop
  case saxIndX => exact .store 2 6 (.indexedIndirect _) (by decide) .sax
  case styZp => exact .store 2 3 (.zeroPage _) (by decide) .sty
  case staZp => exact .store 2 3 (.zeroPage _) (by decide) .sta
  case stxZp => exact .store 2 3 (.zeroPage _) (by decide) .stx
  case saxZp => exact .store 2 3 (.zeroPage _) (by decide) .sax
  case dey => exact .implied 1 2 (by decide) .dey
  case nopImm89 => exact .imm 2 2 _ (by decide) .nop
  case txa => exact .implied 1 2 (by decide) .txa
  case xaaImm => exact .unstable 0x8B (by decide) (.imm 2 2 _ (by decide) .xaa)
  case styAbs => exact .store 3 4 (.absolute _) (by decide) .sty
  case staAbs => exact .store 3 4 (.absolute _) (by decide) .sta
  case stxAbs => exact .store 3 4 (.absolute _) (by decide) .stx
  case saxAbs => exact .store 3 4 (.absolute _) (by decide) .sax
  case bcc => exact .branch (fun s => !s.p.c) _
  case staIndY => exact .store 2 6 (.indirectIndexed _) (by decide) .sta
  case jam92 => exact .jam
  case ahxIndY => exact .unstable 0x93 (by decide) (.high 2 6 (.indirectIndexed _) (by decide) .ahx)
  case styZpX => exact .store 2 4 (.zeroPageX _) (by decide) .sty
  case staZpX => exact .store 2 4 (.zeroPageX _) (by decide) .sta
  case stxZpY => exact .store 2 4 (.zeroPageY _) (by decide) .stx
  case saxZpY => exact .store 2 4 (.zeroPageY _) (by decide) .sax
  case tya => exact .implied 1 2 (by decide) .tya
  case staAbsY => exact .store 3 5 (.absoluteY _) (by decide) .sta
  case txs => exact .implied 1 2 (by decide) .txs
  case tasAbsY => exact .unstable 0x9B (by decide) (.high 3 5 (.absoluteY _) (by decide) .tas)
  case shyAbsX => exact .unstable 0x9C (by decide) (.high 3 5 (.absoluteX _) (by decide) .shy)
  case staAbsX => exact .store 3 5 (.absoluteX _) (by decide) .sta
  case shxAbsY => exact .unstable 0x9E (by decide) (.high 3 5 (.absoluteY _) (by decide) .shx)
  case ahxAbsY => exact .unstable 0x9F (by decide) (.high 3 5 (.absoluteY _) (by decide) .ahx)
  case ldyImm => exact .imm 2 2 _ (by decide) .ldy
  case ldaIndX => exact .read 2 6 0 (.indexedIndirect _) (by decide) .lda
  case ldxImm => exact .imm 2 2 _ (by decide) .ldx
  case laxIndX => exact .read 2 6 0 (.indexedIndirect _) (by decide) .lax
  case ldyZp => exact .read 2 3 0 (.zeroPage _) (by decide) .ldy
  case ldaZp => exact .read 2 3 0 (.zeroPage _) (by decide) .lda
  case ldxZp => exact .read 2 3 0 (.zeroPage _) (by decide) .ldx
  case laxZp => exact .read 2 3 0 (.zeroPage _) (by decide) .lax
  case tay => exact .implied 1 2 (by decide) .tay
  case ldaImm => exact .imm 2 2 _ (by decide) .lda
  case tax => exact .implied 1 2 (by decide) .tax
  case lxaImm => exact .unstable 0xAB (by decide) (.imm 2 2 _ (by decide) .lxa)
  case ldyAbs => exact .read 3 4 0 (.absolute _) (by decide) .ldy
  case ldaAbs => exact .read 3 4 0 (.absolute _) (by decide) .lda
  case ldxAbs => exact .read 3 4 0 (.absolute _) (by decide) .ldx
  case laxAbs => exact .read 3 4 0 (.absolute _) (by decide) .lax
  case bcs => exact .branch (fun s => s.p.c) _
  case ldaIndY => exact .read 2 5 1 (.indirectIndexed _) (by decide) .lda
  case jamB2 => exact .jam
  case laxIndY => exact .read 2 5 1 (.indirectIndexed _) (by decide) .lax
  case ldyZpX => exact .read 2 4 0 (.zeroPageX _) (by decide) .ldy
  case ldaZpX => exact .read 2 4 0 (.zeroPageX _) (by decide) .lda
  case ldxZpY => exact .read 2 4 0 (.zeroPageY _) (by decide) .ldx
  case laxZpY => exact .read 2 4 0 (.zeroPageY _) (by decide) .lax
  case clv => exact .implied 1 2 (by decide) .clv
  case ldaAbsY => exact .read 3 4 1 (.absoluteY _) (by decide) .lda
  case tsx => exact .implied 1 2 (by decide) .tsx
  case lasAbsY => exact .read 3 4 1 (.absoluteY _) (by decide) .las
  case ldyAbsX => exact .read 3 4 1 (.absoluteX _) (by decide) .ldy
  case ldaAbsX => exact .read 3 4 1 (.absoluteX _) (by decide) .lda
  case ldxAbsY => exact .read 3 4 1 (.absoluteY _) (by decide) .ldx
  case laxAbsY => exact .read 3 4 1 (.absoluteY _) (by decide) .lax
  case cpyImm => exact .imm 2 2 _ (by decide) .cpy
  case cmpIndX => exact .read 2 6 0 (.indexedIndirect _) (by decide) .cmp
  case nopImmC2 => exact .imm 2 2 _ (by decide) .nop
  case dcpIndX => exact .rmw 2 8 (.indexedIndirect _) (by decide) .dec .cmp
  case cpyZp => exact .read 2 3 0 (.zeroPage _) (by decide) .cpy
  case cmpZp => exact .read 2 3 0 (.zeroPage _) (by decide) .cmp
  case decZp => exact .rmw 2 5 (.zeroPage _) (by decide) .dec .zn
  case dcpZp => exact .rmw 2 5 (.zeroPage _) (by decide) .dec .cmp
  case iny => exact .implied 1 2 (by decide) .iny
  case cmpImm => exact .imm 2 2 _ (by decide) .cmp
  case dex => exact .implied 1 2 (by decide) .dex
  case axsImm => exact .imm 2 2 _ (by decide) .axs
  case cpyAbs => exact .read 3 4 0 (.absolute _) (by decide) .cpy
  case cmpAbs => exact .read 3 4 0 (.absolute _) (by decide) .cmp
  case decAbs => exact .rmw 3 6 (.absolute _) (by decide) .dec .zn
  case dcpAbs => exact .rmw 3 6 (.absolute _) (by decide) .dec .cmp
  case bne => exact .branch (fun s => !s.p.z) _
  case cmpIndY => exact .read 2 5 1 (.indirectIndexed _) (by decide) .cmp
  case jamD2 => exact .jam
  case dcpIndY => exact .rmw 2 8 (.indirectIndexed _) (by decide) .dec .cmp
  case nopZpXD4 => exact .read 2 4 0 (.zeroPageX _) (by decide) .nop
  case cmpZpX => exact .read 2 4 0 (.zeroPageX _) (by decide) .cmp
  case decZpX => exact .rmw 2 6 (.zeroPageX _) (by decide) .dec .zn
  case dcpZpX => exact .rmw 2 6 (.zeroPageX _) (by decide) .dec .cmp
  case cld => exact .implied 1 2 (by decide) .cld
  case cmpAbsY => exact .read 3 4 1 (.absoluteY _) (by decide) .cmp
  case nopImpDA => exact .implied 1 2 (by decide) .nop
  case dcpAbsY => exact .rmw 3 7 (.absoluteY _) (by decide) .dec .cmp
  case nopAbsXDC => exact .read 3 4 1 (.absoluteX _) (by decide) .nop
  case cmpAbsX => exact .read 3 4 1 (.absoluteX _) (by decide) .cmp
  case decAbsX => exact .rmw 3 7 (.absoluteX _) (by decide) .dec .zn
  case dcpAbsX => exact .rmw 3 7 (.absoluteX _) (by decide) .dec .cmp
  case cpxImm => exact .imm 2 2 _ (by decide) .cpx
  case sbcIndX => exact .read 2 6 0 (.indexedIndirect _) (by decide) .sbc
  case nopImmE2 => exact .imm 2 2 _ (by decide) .nop
  case isbIndX => exact .rmw 2 8 (.indexedIndirect _) (by decide) .inc .sbc
  case cpxZp => exact .read 2 3 0 (.zeroPage _) (by decide) .cpx
  case sbcZp => exact .read 2 3 0 (.zeroPage _) (by decide) .sbc
  case incZp => exact .rmw 2 5 (.zeroPage _) (by decide) .inc .zn
  case isbZp => exact .rmw 2 5 (.zeroPage _) (by decide) .inc .sbc
  case inx => exact .implied 1 2 (by decide) .inx
  case sbcImm => exact .imm 2 2 _ (by decide) .sbc
  case nop => exact .implied 1 2 (by decide) .nop
  case sbcImmEB => exact .imm 2 2 _ (by decide) .sbc
  case cpxAbs => exact .read 3 4 0 (.absolute _) (by decide) .cpx
  case sbcAbs => exact .read 3 4 0 (.absolute _) (by decide) .sbc
  case incAbs => exact .rmw 3 6 (.absolute _) (by decide) .inc .zn
  case isbAbs => exact .rmw 3 6 (.absolute _) (by decide) .inc .sbc
  case beq => exact .branch (fun s => s.p.z) _
  case sbcIndY => exact .read 2 5 1 (.indirectIndexed _) (by decide) .sbc
  case jamF2 => exact .jam
  case isbIndY => exact .rmw 2 8 (.indirectIndexed _) (by decide) .inc .sbc
  case nopZpXF4 => exact .read 2 4 0 (.zeroPageX _) (by decide) .nop
  case sbcZpX => exact .read 2 4 0 (.zeroPageX _) (by decide) .sbc
  case incZpX => exact .rmw 2 6 (.zeroPageX _) (by decide) .inc .zn
  case isbZpX => exact .rmw 2 6 (.zeroPageX _) (by decide) .inc .sbc
  case sed => exact .implied 1 2 (by decide) .sed
  case sbcAbsY => exact .read 3 4 1 (.absoluteY _) (by decide) .sbc
  case nopImpFA => exact .implied 1 2 (by decide) .nop
  case isbAbsY => exact .rmw 3 7 (.absoluteY _) (by decide) .inc .sbc
  case nopAbsXFC => exact .read 3 4 1 (.absoluteX _) (by decide) .nop
  case sbcAbsX => exact .read 3 4 1 (.absoluteX _) (by decide) .sbc
  case incAbsX => exact .rmw 3 7 (.absoluteX _) (by decide) .inc .zn
  case isbAbsX => exact .rmw 3 7 (.absoluteX _) (by decide) .inc .sbc

end Sys2Proof.Machine
end

