-- ==== Sys2Proof/Laws/Keeps.lean ====
section
/-! SUPPORT. What every operation of the machine keeps: the invariant, the cartridge but for CHR-RAM, the parameters and
the event streams so far. One lemma per operation; they compose by `Keeps.trans`. -/

namespace Sys2Proof.Machine

/-- What every operation of the machine keeps between its start and its end: the invariant, the cartridge but for CHR-RAM
(R66, R67), the parameters (R12), and the event streams so far (R69). -/
structure Keeps (s t : State) : Prop where
  inv : s.Inv → t.Inv
  cart : t.cart = { s.cart with chr := t.cart.chr }
  rom : s.cart.chrBanks ≠ 0 → t.cart = s.cart
  params : t.params = s.params
  pixels : s.out.pixels <+: t.out.pixels
  apuWrites : s.out.apuWrites <+: t.out.apuWrites
  controllerWrites : s.out.controllerWrites <+: t.out.controllerWrites
  oracleReads : s.out.oracleReads <+: t.out.oracleReads

theorem Keeps.trans {s t u : State} (h : Keeps s t) (k : Keeps t u) : Keeps s u where
  inv := fun i => k.inv (h.inv i)
  cart := by rw [k.cart, h.cart]
  rom := fun c => by
    have : t.cart.chrBanks ≠ 0 := by rw [h.cart]; exact c
    rw [k.rom this, h.rom c]
  params := k.params.trans h.params
  pixels := h.pixels.trans k.pixels
  apuWrites := h.apuWrites.trans k.apuWrites
  controllerWrites := h.controllerWrites.trans k.controllerWrites
  oracleReads := h.oracleReads.trans k.oracleReads

/-- An operation on the CPU's own registers. -/
theorem Keeps.core {s t : State} (h1 : t.ram = s.ram) (h2 : t.prgRam = s.prgRam) (h3 : t.cart = s.cart)
    (h4 : t.bankSel = s.bankSel) (h5 : t.ppu = s.ppu) (h6 : t.params = s.params) (h7 : t.out = s.out) : Keeps s t := by
  refine ⟨fun i => ⟨?_, ?_, ?_, ?_, ?_, ?_, ?_⟩, by rw [h3], fun _ => h3, h6, ?_, ?_, ?_, ?_⟩
  · rw [h1]; exact i.ram
  · rw [h2, h3]; exact i.prgRam
  · rw [h3]; exact i.cart
  · rw [h4, h3]; exact i.bank
  · rw [h5]; exact i.ppu
  · rw [h6]; exact i.delay
  · rw [h5, h6]; exact i.countdown
  all_goals rw [h7]

theorem Keeps.refl (s : State) : Keeps s s := Keeps.core rfl rfl rfl rfl rfl rfl rfl

/-- An operation that only adds to the event streams. -/
theorem Keeps.events {s : State} {o : Outputs} {n : Nat} (h1 : s.out.pixels <+: o.pixels)
    (h2 : s.out.apuWrites <+: o.apuWrites) (h3 : s.out.controllerWrites <+: o.controllerWrites)
    (h4 : s.out.oracleReads <+: o.oracleReads) : Keeps s { s with out := o, draws := n } :=
  ⟨fun i => ⟨i.ram, i.prgRam, i.cart, i.bank, i.ppu, i.delay, i.countdown⟩, rfl, fun _ => rfl, rfl, h1, h2, h3, h4⟩

theorem Keeps.ram (s : State) (a : Word) (v : Byte) : Keeps s (s.writeRam a v) := by
  refine ⟨fun i => ⟨?_, i.prgRam, i.cart, i.bank, i.ppu, i.delay, i.countdown⟩, rfl, fun _ => rfl, rfl, ?_, ?_, ?_, ?_⟩
  · exact Cells.good_write i.ram (ramIndex_lt a) v
  all_goals exact List.prefix_rfl

theorem Keeps.prgRam (s : State) (a : Word) (h : a.toNat ≤ 0x7FFF) (v : Byte) : Keeps s (s.writePrgRam a v) := by
  refine ⟨fun i => ⟨i.ram, ?_, i.cart, i.bank, i.ppu, i.delay, i.countdown⟩, rfl, fun _ => rfl, rfl, ?_, ?_, ?_, ?_⟩
  · refine Cells.good_write i.prgRam ?_ v
    have := prgRamIndex_lt h
    show _ < 8192 * max 1 _
    have : 1 ≤ max 1 s.cart.prgRamUnits := le_max_left _ _
    omega
  all_goals exact List.prefix_rfl

/-- A PPU update that keeps the PPU's part of the invariant. -/
theorem Keeps.ppu {s : State} {p : Ppu} (h : s.Inv → p.InRange ∧ p.nmiDelay ≤ s.params.nmiDelayDots) :
    Keeps s (s.setPpu p) := by
  refine ⟨fun i => ⟨i.ram, i.prgRam, i.cart, i.bank, (h i).1, i.delay, (h i).2⟩, rfl, fun _ => rfl, rfl, ?_, ?_, ?_, ?_⟩
  all_goals exact List.prefix_rfl

theorem Keeps.draw (s : State) : Keeps s (drawByte s).2 := Keeps.core rfl rfl rfl rfl rfl rfl rfl

/-- A PPU that differs only in fields the invariant does not bound, and whose edge detector is up to date. -/
theorem Ppu.InRange.same {p q : Ppu} (h : p.InRange) (oam : q.oam = p.oam) (pal : q.pal = p.pal)
    (ciram : q.ciram = p.ciram) (dot : q.dot = p.dot) (scanline : q.scanline = p.scanline) (bg : q.bg = p.bg)
    (sprCount : q.sprCount = p.sprCount) (nmi : q.nmiPrevious = (q.ctrl.nmiOutput && q.vblank)) : q.InRange where
  oam := by rw [oam]; exact h.oam
  pal := by rw [pal]; exact h.pal
  palAlias := by rw [pal]; exact h.palAlias
  ciram := by rw [ciram]; exact h.ciram
  dot := by rw [dot]; exact h.dot
  scanline := by rw [scanline]; exact h.scanline
  attr := by rw [bg]; exact h.attr
  sprCount := by rw [sprCount]; exact h.sprCount
  nmiPrevious := nmi

theorem nmiChange_le {p : Ppu} {d : Nat} (h : p.nmiDelay ≤ d) : (Ppu.nmiChange d p).nmiDelay ≤ d := by
  rw [Ppu.nmiChange_delay]; split <;> omega

theorem Keeps.status (s : State) : Keeps s (readStatus s).2 := by
  exact Keeps.ppu fun i => ⟨i.ppu.same rfl rfl rfl rfl rfl rfl rfl rfl,
    nmiChange_le (p := { s.ppu with vblank := false }) i.countdown⟩

theorem Keeps.ppuBusRead (a : BitVec 14) (s : State) : Keeps s (Machine.ppuBusRead a s).2 := by
  rw [ppuBusRead_frame]; exact Keeps.core rfl rfl rfl rfl rfl rfl rfl

theorem Keeps.data (s : State) : Keeps s (readData s).2 := by
  have key : ∀ (t : State) (b : Byte), Keeps s t → Keeps s (t.setPpu (Ppu.stepV { t.ppu with buffer := b })) :=
    fun t b h => h.trans (Keeps.ppu fun i => ⟨i.ppu.same rfl rfl rfl rfl rfl rfl rfl i.ppu.nmiPrevious, i.countdown⟩)
  unfold readData
  dsimp only
  split_ifs
  · exact key _ _ (Keeps.ppuBusRead _ _)
  · exact key _ _ ((Keeps.ppuBusRead _ _).trans (Keeps.ppuBusRead _ _))

theorem Keeps.read {a : Word} {s t : State} {v : Byte} (h : busRead a s = .ok v t) : Keeps s t := by
  unfold busRead prgRead apuRead inputRead at h
  split_ifs at h <;> injection h with hv ht <;> subst ht
  · exact Keeps.refl _
  · unfold readPpuReg
    split_ifs
    · exact Keeps.status s
    · exact Keeps.refl s
    · exact Keeps.data s
    · exact Keeps.draw s
  · exact Keeps.draw s
  · exact Keeps.events List.prefix_rfl List.prefix_rfl List.prefix_rfl (List.prefix_append _ _)
  · exact Keeps.events List.prefix_rfl List.prefix_rfl List.prefix_rfl (List.prefix_append _ _)
  · exact Keeps.refl _
  · exact Keeps.refl _

theorem Keeps.oamWrite (s : State) (d : Byte) : Keeps s (s.setPpu (s.ppu.writeOamData d)) := by
  refine Keeps.ppu fun i => ⟨?_, i.countdown⟩
  have r := i.ppu
  exact ⟨Cells.good_write r.oam s.ppu.oamAddr.isLt d, r.pal, r.palAlias, r.ciram, r.dot, r.scanline, r.attr, r.sprCount,
    r.nmiPrevious⟩

theorem Keeps.dataWrite (s : State) (d : Byte) : Keeps s (writeData d s) := by
  have stepped : ∀ t : State, Keeps t (t.setPpu t.ppu.stepV) := fun t => Keeps.ppu fun i =>
    ⟨i.ppu.same rfl rfl rfl rfl rfl rfl rfl i.ppu.nmiPrevious, i.countdown⟩
  refine Keeps.trans ?_ (stepped _)
  unfold ppuBusWrite
  split_ifs with h1 h2 h3
  · refine ⟨fun i => ⟨i.ram, i.prgRam, ⟨i.cart.prgRom, ?_, i.cart.chrBanks, i.cart.prgBanks, i.cart.nrom⟩, i.bank, i.ppu,
      i.delay, i.countdown⟩, rfl, fun c => ?_, rfl, ?_, ?_, ?_, ?_⟩
    · refine Cells.good_write i.cart.chr ?_ d
      show _ < 8192 * max 1 _
      have : 1 ≤ max 1 s.cart.chrBanks := le_max_left _ _
      omega
    · simp [Cart.chrIsRam] at h2; exact absurd h2 c
    all_goals exact List.prefix_rfl
  · exact Keeps.refl s
  · refine Keeps.ppu fun i => ⟨?_, i.countdown⟩
    have r := i.ppu
    exact ⟨r.oam, r.pal, r.palAlias, Cells.good_write r.ciram (mirrorIndex_lt _ _) d, r.dot, r.scanline, r.attr,
      r.sprCount, r.nmiPrevious⟩
  · refine Keeps.ppu fun i => ⟨?_, i.countdown⟩
    have r := i.ppu
    refine ⟨r.oam, Cells.good_write r.pal (palIndex_lt _) _, ?_, r.ciram, r.dot, r.scanline, r.attr, r.sprCount,
      r.nmiPrevious⟩
    intro c hc
    rcases Cells.mem_write hc with e | hm
    · rw [e]; exact palIndex_not_alias _
    · exact r.palAlias c hm

theorem Keeps.ppuReg (n : Nat) (d : Byte) (s : State) : Keeps s (writePpuReg n d s) := by
  have latched : Keeps s (s.setLatch d) := Keeps.ppu fun i =>
    ⟨i.ppu.same rfl rfl rfl rfl rfl rfl rfl i.ppu.nmiPrevious, i.countdown⟩
  refine latched.trans ?_
  unfold writePpuReg
  dsimp only
  generalize s.setLatch d = t
  split_ifs
  · exact Keeps.ppu fun i => ⟨i.ppu.same rfl rfl rfl rfl rfl rfl rfl rfl, nmiChange_le i.countdown⟩
  · exact Keeps.ppu fun i => ⟨i.ppu.same rfl rfl rfl rfl rfl rfl rfl i.ppu.nmiPrevious, i.countdown⟩
  · exact Keeps.refl _
  · exact Keeps.ppu fun i => ⟨i.ppu.same rfl rfl rfl rfl rfl rfl rfl i.ppu.nmiPrevious, i.countdown⟩
  · exact Keeps.oamWrite _ _
  · refine Keeps.ppu fun i => ?_
    unfold Ppu.writeScroll
    split <;> exact ⟨i.ppu.same rfl rfl rfl rfl rfl rfl rfl i.ppu.nmiPrevious, i.countdown⟩
  · refine Keeps.ppu fun i => ?_
    unfold Ppu.writeAddr
    dsimp only
    split <;> exact ⟨i.ppu.same rfl rfl rfl rfl rfl rfl rfl i.ppu.nmiPrevious, i.countdown⟩
  · exact Keeps.dataWrite _ _

theorem Keeps.dma {base : Word} {n i : Nat} {s t : State} (h : dmaCopy base n i s = .ok () t) : Keeps s t := by
  induction n generalizing i s with
  | zero => injection h with _ h; subst h; exact Keeps.refl _
  | succ n ih =>
    obtain ⟨v, u, hu, hc⟩ := Res.andThen_eq_ok h
    exact (Keeps.read hu).trans ((Keeps.oamWrite _ _).trans (ih hc))

theorem Keeps.write {a v s t} (h : busWrite a v s = .ok () t) : Keeps s t := by
  unfold busWrite at h
  split_ifs at h
  · injection h with _ h; subst h; exact Keeps.ram _ _ _
  · injection h with _ h; subst h; exact Keeps.ppuReg _ _ _
  · unfold oamDma at h
    obtain ⟨_, u, hu, h⟩ := Res.andThen_eq_ok h
    injection h with _ h
    subst h
    exact (Keeps.dma hu).trans (Keeps.core rfl rfl rfl rfl rfl rfl rfl)
  · injection h with _ h; subst h
    exact Keeps.events List.prefix_rfl List.prefix_rfl (List.prefix_append _ _) List.prefix_rfl
  · injection h with _ h; subst h
    exact Keeps.events List.prefix_rfl (List.prefix_append _ _) List.prefix_rfl List.prefix_rfl
  · injection h with _ h; subst h; exact Keeps.prgRam _ _ (by omega) _
  · injection h with _ h
    subst h
    unfold prgWrite
    split
    · exact Keeps.refl _
    · exact ⟨fun i => ⟨i.ram, i.prgRam, i.cart, Nat.mod_lt _ i.cart.prgBanks, i.ppu, i.delay, i.countdown⟩, rfl,
        fun _ => rfl, rfl, List.prefix_rfl, List.prefix_rfl, List.prefix_rfl, List.prefix_rfl⟩

theorem Keeps.push (s : State) (v : Byte) : Keeps s (s.push v) :=
  (Keeps.ram s _ v).trans (Keeps.core rfl rfl rfl rfl rfl rfl rfl)

theorem Keeps.setI (s : State) (b : Bool) : Keeps s (s.setI b) := Keeps.core rfl rfl rfl rfl rfl rfl rfl

theorem Keeps.setPc (s : State) (w : Word) : Keeps s (s.setPc w) := Keeps.core rfl rfl rfl rfl rfl rfl rfl

theorem Keeps.enter {b : Bool} {vec : Word} {s t : State} (h : enterInterrupt b vec s = .ok () t) : Keeps s t := by
  obtain ⟨w, u, hw, h⟩ := Res.andThen_eq_ok h
  injection h with _ h; subst h
  obtain ⟨lo, x, h1, h⟩ := Res.andThen_eq_ok hw
  obtain ⟨hi, y, h2, h⟩ := Res.andThen_eq_ok h
  injection h with _ h; subst h
  have : Keeps s (((s.push16 s.pc).push (s.p.pack b)).setI true) :=
    (Keeps.push _ _).trans ((Keeps.push _ _).trans ((Keeps.push _ _).trans (Keeps.setI _ _)))
  exact this.trans ((Keeps.read h1).trans ((Keeps.read h2).trans (Keeps.setPc _ _)))

/-- The attribute palette number is shifted left by 2 (R62). -/
theorem shiftedQuadrant_low (q : Byte) : ((q &&& 3) <<< 2).setWidth 4 &&& 3#4 = 0#4 := by
  ext i hi
  interval_cases i <;> simp

theorem fetchWork_attr (c : Cart) (p : Ppu) (h : p.bg.attr &&& 3 = 0) : (fetchWork c p).bg.attr &&& 3 = 0 := by
  unfold fetchWork
  dsimp only
  split_ifs
  · exact h
  · exact shiftedQuadrant_low _
  · exact h
  · exact h
  · exact h
  · exact h

theorem renderWork_range (c : Cart) (p : Ppu) (h : p.bg.attr &&& 3 = 0) (h2 : p.sprCount ≤ 8) :
    (renderWork c p).bg.attr &&& 3 = 0 ∧ (renderWork c p).sprCount ≤ 8 := by
  have hbg : ∀ q : Ppu, (spriteWork c (scrollWork q)).bg = q.bg := by
    intro q; rw [spriteWork_frame]; rfl
  have hsp : ∀ q : Ppu, q.sprCount ≤ 8 → (spriteWork c (scrollWork q)).sprCount ≤ 8 := by
    intro q hq
    unfold spriteWork
    split_ifs
    · exact min_le_right _ _
    · exact Nat.zero_le _
    · exact hq
  unfold renderWork
  dsimp only
  refine ⟨?_, ?_⟩
  · rw [hbg]
    split_ifs
    · exact fetchWork_attr _ _ h
    · exact h
    · exact fetchWork_attr _ _ h
    · exact h
  · apply hsp
    split_ifs
    · rw [fetchWork_frame]; exact h2
    · exact h2
    · rw [fetchWork_frame]; exact h2
    · exact h2

theorem advance_range (p : Ppu) (h1 : p.dot ≤ 340) (h2 : p.scanline ≤ 261) :
    p.advance.dot ≤ 340 ∧ p.advance.scanline ≤ 261 := by
  unfold Ppu.advance Ppu.nextFrame
  split_ifs <;> dsimp only <;> omega

/-- The dot advance changes the dot, the line, the parity and the frame count, nothing else (R421). -/
theorem advance_frame (p : Ppu) : p.advance = { p with
    dot := p.advance.dot, scanline := p.advance.scanline, odd := p.advance.odd, frame := p.advance.frame } := by
  unfold Ppu.advance Ppu.nextFrame
  split_ifs <;> rfl

theorem setVblank_range {d : Nat} {p : Ppu} (h : p.InRange) (hd : p.nmiDelay ≤ d) :
    (p.setVblank d).InRange ∧ (p.setVblank d).nmiDelay ≤ d :=
  ⟨h.same rfl rfl rfl rfl rfl rfl rfl rfl, nmiChange_le (p := { p with vblank := true }) hd⟩

theorem clearFlags_range {d : Nat} {p : Ppu} (h : p.InRange) (hd : p.nmiDelay ≤ d) :
    (p.clearFlags d).InRange ∧ (p.clearFlags d).nmiDelay ≤ d :=
  ⟨h.same rfl rfl rfl rfl rfl rfl rfl rfl, nmiChange_le (p := { p with vblank := false }) hd⟩

theorem vblankWork_range {d : Nat} {p : Ppu} (h : p.InRange) (hd : p.nmiDelay ≤ d) :
    (vblankWork d p).InRange ∧ (vblankWork d p).nmiDelay ≤ d := by
  unfold vblankWork
  dsimp only
  split_ifs
  · exact clearFlags_range (setVblank_range h hd).1 (setVblank_range h hd).2
  · exact setVblank_range h hd
  · exact clearFlags_range h hd
  · exact ⟨h, hd⟩

theorem Keeps.tick (s : State) : Keeps s (Machine.tick s) := by
  refine ⟨fun i => ?_, rfl, fun _ => rfl, rfl, List.prefix_append _ _, List.prefix_rfl, List.prefix_rfl, List.prefix_rfl⟩
  have key : (Machine.tick s).ppu.InRange ∧ (Machine.tick s).ppu.nmiDelay ≤ s.params.nmiDelayDots := by
    have r := i.ppu
    have a := advance_range s.ppu.countdown r.dot r.scanline
    have hp : s.ppu.countdown.advance.InRange ∧ s.ppu.countdown.advance.nmiDelay ≤ s.params.nmiDelayDots := by
      rw [advance_frame]
      refine ⟨⟨r.oam, r.pal, r.palAlias, r.ciram, a.1, a.2, r.attr, r.sprCount, r.nmiPrevious⟩, ?_⟩
      exact (Nat.sub_le _ 1).trans i.countdown
    show (dotWork s.cart s.params.nmiDelayDots s.ppu.countdown.advance).InRange ∧ _
    unfold dotWork
    apply vblankWork_range
    · split
      · have := renderWork_range s.cart _ hp.1.attr hp.1.sprCount
        rw [renderWork_frame]
        have h := hp.1
        exact ⟨h.oam, h.pal, h.palAlias, h.ciram, h.dot, h.scanline, this.1, this.2, h.nmiPrevious⟩
      · exact hp.1
    · split
      · rw [renderWork_frame]; exact hp.2
      · exact hp.2
  exact ⟨i.ram, i.prgRam, i.cart, i.bank, key.1, i.delay, key.2⟩

theorem Keeps.dots (n : Nat) (s : State) : Keeps s (runDots n s) := by
  induction n generalizing s with
  | zero => exact Keeps.refl _
  | succ n ih => exact (Keeps.tick s).trans (ih _)

end Sys2Proof.Machine
end

