-- ==== Sys2Proof/Laws/PerInstr.lean ====
section
/-! SUPPORT. A statement made of every instruction: the bytes of its encoding are the opcode byte, whose row in the opcode
map builds instructions of that shape, and as many operand bytes as the row says (R140 to R142). -/

namespace Sys2Proof.Laws.EncodedLength

/-- The encoding of `i` starts with an opcode byte and has as many operand bytes as that byte says (R142). -/
def Statement (i : Instr) : Prop :=
  (encode i).tail.length = operandCount i.opcode

theorem brk : Statement (.brk) := show 0 = operandCount 0x00 from rfl
theorem oraIndX (zp : Byte) : Statement (.oraIndX zp) := show 1 = operandCount 0x01 from rfl
theorem jam02 : Statement (.jam02) := show 0 = operandCount 0x02 from rfl
theorem sloIndX (zp : Byte) : Statement (.sloIndX zp) := show 1 = operandCount 0x03 from rfl
theorem nopZp04 (zp : Byte) : Statement (.nopZp04 zp) := show 1 = operandCount 0x04 from rfl
theorem oraZp (zp : Byte) : Statement (.oraZp zp) := show 1 = operandCount 0x05 from rfl
theorem aslZp (zp : Byte) : Statement (.aslZp zp) := show 1 = operandCount 0x06 from rfl
theorem sloZp (zp : Byte) : Statement (.sloZp zp) := show 1 = operandCount 0x07 from rfl
theorem php : Statement (.php) := show 0 = operandCount 0x08 from rfl
theorem oraImm (imm : Byte) : Statement (.oraImm imm) := show 1 = operandCount 0x09 from rfl
theorem aslAcc : Statement (.aslAcc) := show 0 = operandCount 0x0A from rfl
theorem ancImm0B (imm : Byte) : Statement (.ancImm0B imm) := show 1 = operandCount 0x0B from rfl
theorem nopAbs (addr : Word) : Statement (.nopAbs addr) := show 2 = operandCount 0x0C from rfl
theorem oraAbs (addr : Word) : Statement (.oraAbs addr) := show 2 = operandCount 0x0D from rfl
theorem aslAbs (addr : Word) : Statement (.aslAbs addr) := show 2 = operandCount 0x0E from rfl
theorem sloAbs (addr : Word) : Statement (.sloAbs addr) := show 2 = operandCount 0x0F from rfl
theorem bpl (off : Int) : Statement (.bpl off) := show 1 = operandCount 0x10 from rfl
theorem oraIndY (zp : Byte) : Statement (.oraIndY zp) := show 1 = operandCount 0x11 from rfl
theorem jam12 : Statement (.jam12) := show 0 = operandCount 0x12 from rfl
theorem sloIndY (zp : Byte) : Statement (.sloIndY zp) := show 1 = operandCount 0x13 from rfl
theorem nopZpX14 (zp : Byte) : Statement (.nopZpX14 zp) := show 1 = operandCount 0x14 from rfl
theorem oraZpX (zp : Byte) : Statement (.oraZpX zp) := show 1 = operandCount 0x15 from rfl
theorem aslZpX (zp : Byte) : Statement (.aslZpX zp) := show 1 = operandCount 0x16 from rfl
theorem sloZpX (zp : Byte) : Statement (.sloZpX zp) := show 1 = operandCount 0x17 from rfl
theorem clc : Statement (.clc) := show 0 = operandCount 0x18 from rfl
theorem oraAbsY (addr : Word) : Statement (.oraAbsY addr) := show 2 = operandCount 0x19 from rfl
theorem nopImp1A : Statement (.nopImp1A) := show 0 = operandCount 0x1A from rfl
theorem sloAbsY (addr : Word) : Statement (.sloAbsY addr) := show 2 = operandCount 0x1B from rfl
theorem nopAbsX1C (addr : Word) : Statement (.nopAbsX1C addr) := show 2 = operandCount 0x1C from rfl
theorem oraAbsX (addr : Word) : Statement (.oraAbsX addr) := show 2 = operandCount 0x1D from rfl
theorem aslAbsX (addr : Word) : Statement (.aslAbsX addr) := show 2 = operandCount 0x1E from rfl
theorem sloAbsX (addr : Word) : Statement (.sloAbsX addr) := show 2 = operandCount 0x1F from rfl
theorem jsrAbs (addr : Word) : Statement (.jsrAbs addr) := show 2 = operandCount 0x20 from rfl
theorem andIndX (zp : Byte) : Statement (.andIndX zp) := show 1 = operandCount 0x21 from rfl
theorem jam22 : Statement (.jam22) := show 0 = operandCount 0x22 from rfl
theorem rlaIndX (zp : Byte) : Statement (.rlaIndX zp) := show 1 = operandCount 0x23 from rfl
theorem bitZp (zp : Byte) : Statement (.bitZp zp) := show 1 = operandCount 0x24 from rfl
theorem andZp (zp : Byte) : Statement (.andZp zp) := show 1 = operandCount 0x25 from rfl
theorem rolZp (zp : Byte) : Statement (.rolZp zp) := show 1 = operandCount 0x26 from rfl
theorem rlaZp (zp : Byte) : Statement (.rlaZp zp) := show 1 = operandCount 0x27 from rfl
theorem plp : Statement (.plp) := show 0 = operandCount 0x28 from rfl
theorem andImm (imm : Byte) : Statement (.andImm imm) := show 1 = operandCount 0x29 from rfl
theorem rolAcc : Statement (.rolAcc) := show 0 = operandCount 0x2A from rfl
theorem ancImm2B (imm : Byte) : Statement (.ancImm2B imm) := show 1 = operandCount 0x2B from rfl
theorem bitAbs (addr : Word) : Statement (.bitAbs addr) := show 2 = operandCount 0x2C from rfl
theorem andAbs (addr : Word) : Statement (.andAbs addr) := show 2 = operandCount 0x2D from rfl
theorem rolAbs (addr : Word) : Statement (.rolAbs addr) := show 2 = operandCount 0x2E from rfl
theorem rlaAbs (addr : Word) : Statement (.rlaAbs addr) := show 2 = operandCount 0x2F from rfl
theorem bmi (off : Int) : Statement (.bmi off) := show 1 = operandCount 0x30 from rfl
theorem andIndY (zp : Byte) : Statement (.andIndY zp) := show 1 = operandCount 0x31 from rfl
theorem jam32 : Statement (.jam32) := show 0 = operandCount 0x32 from rfl
theorem rlaIndY (zp : Byte) : Statement (.rlaIndY zp) := show 1 = operandCount 0x33 from rfl
theorem nopZpX34 (zp : Byte) : Statement (.nopZpX34 zp) := show 1 = operandCount 0x34 from rfl
theorem andZpX (zp : Byte) : Statement (.andZpX zp) := show 1 = operandCount 0x35 from rfl
theorem rolZpX (zp : Byte) : Statement (.rolZpX zp) := show 1 = operandCount 0x36 from rfl
theorem rlaZpX (zp : Byte) : Statement (.rlaZpX zp) := show 1 = operandCount 0x37 from rfl
theorem sec : Statement (.sec) := show 0 = operandCount 0x38 from rfl
theorem andAbsY (addr : Word) : Statement (.andAbsY addr) := show 2 = operandCount 0x39 from rfl
theorem nopImp3A : Statement (.nopImp3A) := show 0 = operandCount 0x3A from rfl
theorem rlaAbsY (addr : Word) : Statement (.rlaAbsY addr) := show 2 = operandCount 0x3B from rfl
theorem nopAbsX3C (addr : Word) : Statement (.nopAbsX3C addr) := show 2 = operandCount 0x3C from rfl
theorem andAbsX (addr : Word) : Statement (.andAbsX addr) := show 2 = operandCount 0x3D from rfl
theorem rolAbsX (addr : Word) : Statement (.rolAbsX addr) := show 2 = operandCount 0x3E from rfl
theorem rlaAbsX (addr : Word) : Statement (.rlaAbsX addr) := show 2 = operandCount 0x3F from rfl
theorem rti : Statement (.rti) := show 0 = operandCount 0x40 from rfl
theorem eorIndX (zp : Byte) : Statement (.eorIndX zp) := show 1 = operandCount 0x41 from rfl
theorem jam42 : Statement (.jam42) := show 0 = operandCount 0x42 from rfl
theorem sreIndX (zp : Byte) : Statement (.sreIndX zp) := show 1 = operandCount 0x43 from rfl
theorem nopZp44 (zp : Byte) : Statement (.nopZp44 zp) := show 1 = operandCount 0x44 from rfl
theorem eorZp (zp : Byte) : Statement (.eorZp zp) := show 1 = operandCount 0x45 from rfl
theorem lsrZp (zp : Byte) : Statement (.lsrZp zp) := show 1 = operandCount 0x46 from rfl
theorem sreZp (zp : Byte) : Statement (.sreZp zp) := show 1 = operandCount 0x47 from rfl
theorem pha : Statement (.pha) := show 0 = operandCount 0x48 from rfl
theorem eorImm (imm : Byte) : Statement (.eorImm imm) := show 1 = operandCount 0x49 from rfl
theorem lsrAcc : Statement (.lsrAcc) := show 0 = operandCount 0x4A from rfl
theorem alrImm (imm : Byte) : Statement (.alrImm imm) := show 1 = operandCount 0x4B from rfl
theorem jmpAbs (addr : Word) : Statement (.jmpAbs addr) := show 2 = operandCount 0x4C from rfl
theorem eorAbs (addr : Word) : Statement (.eorAbs addr) := show 2 = operandCount 0x4D from rfl
theorem lsrAbs (addr : Word) : Statement (.lsrAbs addr) := show 2 = operandCount 0x4E from rfl
theorem sreAbs (addr : Word) : Statement (.sreAbs addr) := show 2 = operandCount 0x4F from rfl
theorem bvc (off : Int) : Statement (.bvc off) := show 1 = operandCount 0x50 from rfl
theorem eorIndY (zp : Byte) : Statement (.eorIndY zp) := show 1 = operandCount 0x51 from rfl
theorem jam52 : Statement (.jam52) := show 0 = operandCount 0x52 from rfl
theorem sreIndY (zp : Byte) : Statement (.sreIndY zp) := show 1 = operandCount 0x53 from rfl
theorem nopZpX54 (zp : Byte) : Statement (.nopZpX54 zp) := show 1 = operandCount 0x54 from rfl
theorem eorZpX (zp : Byte) : Statement (.eorZpX zp) := show 1 = operandCount 0x55 from rfl
theorem lsrZpX (zp : Byte) : Statement (.lsrZpX zp) := show 1 = operandCount 0x56 from rfl
theorem sreZpX (zp : Byte) : Statement (.sreZpX zp) := show 1 = operandCount 0x57 from rfl
theorem cli : Statement (.cli) := show 0 = operandCount 0x58 from rfl
theorem eorAbsY (addr : Word) : Statement (.eorAbsY addr) := show 2 = operandCount 0x59 from rfl
theorem nopImp5A : Statement (.nopImp5A) := show 0 = operandCount 0x5A from rfl
theorem sreAbsY (addr : Word) : Statement (.sreAbsY addr) := show 2 = operandCount 0x5B from rfl
theorem nopAbsX5C (addr : Word) : Statement (.nopAbsX5C addr) := show 2 = operandCount 0x5C from rfl
theorem eorAbsX (addr : Word) : Statement (.eorAbsX addr) := show 2 = operandCount 0x5D from rfl
theorem lsrAbsX (addr : Word) : Statement (.lsrAbsX addr) := show 2 = operandCount 0x5E from rfl
theorem sreAbsX (addr : Word) : Statement (.sreAbsX addr) := show 2 = operandCount 0x5F from rfl
theorem rts : Statement (.rts) := show 0 = operandCount 0x60 from rfl
theorem adcIndX (zp : Byte) : Statement (.adcIndX zp) := show 1 = operandCount 0x61 from rfl
theorem jam62 : Statement (.jam62) := show 0 = operandCount 0x62 from rfl
theorem rraIndX (zp : Byte) : Statement (.rraIndX zp) := show 1 = operandCount 0x63 from rfl
theorem nopZp64 (zp : Byte) : Statement (.nopZp64 zp) := show 1 = operandCount 0x64 from rfl
theorem adcZp (zp : Byte) : Statement (.adcZp zp) := show 1 = operandCount 0x65 from rfl
theorem rorZp (zp : Byte) : Statement (.rorZp zp) := show 1 = operandCount 0x66 from rfl
theorem rraZp (zp : Byte) : Statement (.rraZp zp) := show 1 = operandCount 0x67 from rfl
theorem pla : Statement (.pla) := show 0 = operandCount 0x68 from rfl
theorem adcImm (imm : Byte) : Statement (.adcImm imm) := show 1 = operandCount 0x69 from rfl
theorem rorAcc : Statement (.rorAcc) := show 0 = operandCount 0x6A from rfl
theorem arrImm (imm : Byte) : Statement (.arrImm imm) := show 1 = operandCount 0x6B from rfl
theorem jmpInd (addr : Word) : Statement (.jmpInd addr) := show 2 = operandCount 0x6C from rfl
theorem adcAbs (addr : Word) : Statement (.adcAbs addr) := show 2 = operandCount 0x6D from rfl
theorem rorAbs (addr : Word) : Statement (.rorAbs addr) := show 2 = operandCount 0x6E from rfl
theorem rraAbs (addr : Word) : Statement (.rraAbs addr) := show 2 = operandCount 0x6F from rfl
theorem bvs (off : Int) : Statement (.bvs off) := show 1 = operandCount 0x70 from rfl
theorem adcIndY (zp : Byte) : Statement (.adcIndY zp) := show 1 = operandCount 0x71 from rfl
theorem jam72 : Statement (.jam72) := show 0 = operandCount 0x72 from rfl
theorem rraIndY (zp : Byte) : Statement (.rraIndY zp) := show 1 = operandCount 0x73 from rfl
theorem nopZpX74 (zp : Byte) : Statement (.nopZpX74 zp) := show 1 = operandCount 0x74 from rfl
theorem adcZpX (zp : Byte) : Statement (.adcZpX zp) := show 1 = operandCount 0x75 from rfl
theorem rorZpX (zp : Byte) : Statement (.rorZpX zp) := show 1 = operandCount 0x76 from rfl
theorem rraZpX (zp : Byte) : Statement (.rraZpX zp) := show 1 = operandCount 0x77 from rfl
theorem sei : Statement (.sei) := show 0 = operandCount 0x78 from rfl
theorem adcAbsY (addr : Word) : Statement (.adcAbsY addr) := show 2 = operandCount 0x79 from rfl
theorem nopImp7A : Statement (.nopImp7A) := show 0 = operandCount 0x7A from rfl
theorem rraAbsY (addr : Word) : Statement (.rraAbsY addr) := show 2 = operandCount 0x7B from rfl
theorem nopAbsX7C (addr : Word) : Statement (.nopAbsX7C addr) := show 2 = operandCount 0x7C from rfl
theorem adcAbsX (addr : Word) : Statement (.adcAbsX addr) := show 2 = operandCount 0x7D from rfl
theorem rorAbsX (addr : Word) : Statement (.rorAbsX addr) := show 2 = operandCount 0x7E from rfl
theorem rraAbsX (addr : Word) : Statement (.rraAbsX addr) := show 2 = operandCount 0x7F from rfl
theorem nopImm80 (imm : Byte) : Statement (.nopImm80 imm) := show 1 = operandCount 0x80 from rfl
theorem staIndX (zp : Byte) : Statement (.staIndX zp) := show 1 = operandCount 0x81 from rfl
theorem nopImm82 (imm : Byte) : Statement (.nopImm82 imm) := show 1 = operandCount 0x82 from rfl
theorem saxIndX (zp : Byte) : Statement (.saxIndX zp) := show 1 = operandCount 0x83 from rfl
theorem styZp (zp : Byte) : Statement (.styZp zp) := show 1 = operandCount 0x84 from rfl
theorem staZp (zp : Byte) : Statement (.staZp zp) := show 1 = operandCount 0x85 from rfl
theorem stxZp (zp : Byte) : Statement (.stxZp zp) := show 1 = operandCount 0x86 from rfl
theorem saxZp (zp : Byte) : Statement (.saxZp zp) := show 1 = operandCount 0x87 from rfl
theorem dey : Statement (.dey) := show 0 = operandCount 0x88 from rfl
theorem nopImm89 (imm : Byte) : Statement (.nopImm89 imm) := show 1 = operandCount 0x89 from rfl
theorem txa : Statement (.txa) := show 0 = operandCount 0x8A from rfl
theorem xaaImm (imm : Byte) : Statement (.xaaImm imm) := show 1 = operandCount 0x8B from rfl
theorem styAbs (addr : Word) : Statement (.styAbs addr) := show 2 = operandCount 0x8C from rfl
theorem staAbs (addr : Word) : Statement (.staAbs addr) := show 2 = operandCount 0x8D from rfl
theorem stxAbs (addr : Word) : Statement (.stxAbs addr) := show 2 = operandCount 0x8E from rfl
theorem saxAbs (addr : Word) : Statement (.saxAbs addr) := show 2 = operandCount 0x8F from rfl
theorem bcc (off : Int) : Statement (.bcc off) := show 1 = operandCount 0x90 from rfl
theorem staIndY (zp : Byte) : Statement (.staIndY zp) := show 1 = operandCount 0x91 from rfl
theorem jam92 : Statement (.jam92) := show 0 = operandCount 0x92 from rfl
theorem ahxIndY (zp : Byte) : Statement (.ahxIndY zp) := show 1 = operandCount 0x93 from rfl
theorem styZpX (zp : Byte) : Statement (.styZpX zp) := show 1 = operandCount 0x94 from rfl
theorem staZpX (zp : Byte) : Statement (.staZpX zp) := show 1 = operandCount 0x95 from rfl
theorem stxZpY (zp : Byte) : Statement (.stxZpY zp) := show 1 = operandCount 0x96 from rfl
theorem saxZpY (zp : Byte) : Statement (.saxZpY zp) := show 1 = operandCount 0x97 from rfl
theorem tya : Statement (.tya) := show 0 = operandCount 0x98 from rfl
theorem staAbsY (addr : Word) : Statement (.staAbsY addr) := show 2 = operandCount 0x99 from rfl
theorem txs : Statement (.txs) := show 0 = operandCount 0x9A from rfl
theorem tasAbsY (addr : Word) : Statement (.tasAbsY addr) := show 2 = operandCount 0x9B from rfl
theorem shyAbsX (addr : Word) : Statement (.shyAbsX addr) := show 2 = operandCount 0x9C from rfl
theorem staAbsX (addr : Word) : Statement (.staAbsX addr) := show 2 = operandCount 0x9D from rfl
theorem shxAbsY (addr : Word) : Statement (.shxAbsY addr) := show 2 = operandCount 0x9E from rfl
theorem ahxAbsY (addr : Word) : Statement (.ahxAbsY addr) := show 2 = operandCount 0x9F from rfl
theorem ldyImm (imm : Byte) : Statement (.ldyImm imm) := show 1 = operandCount 0xA0 from rfl
theorem ldaIndX (zp : Byte) : Statement (.ldaIndX zp) := show 1 = operandCount 0xA1 from rfl
theorem ldxImm (imm : Byte) : Statement (.ldxImm imm) := show 1 = operandCount 0xA2 from rfl
theorem laxIndX (zp : Byte) : Statement (.laxIndX zp) := show 1 = operandCount 0xA3 from rfl
theorem ldyZp (zp : Byte) : Statement (.ldyZp zp) := show 1 = operandCount 0xA4 from rfl
theorem ldaZp (zp : Byte) : Statement (.ldaZp zp) := show 1 = operandCount 0xA5 from rfl
theorem ldxZp (zp : Byte) : Statement (.ldxZp zp) := show 1 = operandCount 0xA6 from rfl
theorem laxZp (zp : Byte) : Statement (.laxZp zp) := show 1 = operandCount 0xA7 from rfl
theorem tay : Statement (.tay) := show 0 = operandCount 0xA8 from rfl
theorem ldaImm (imm : Byte) : Statement (.ldaImm imm) := show 1 = operandCount 0xA9 from rfl
theorem tax : Statement (.tax) := show 0 = operandCount 0xAA from rfl
theorem lxaImm (imm : Byte) : Statement (.lxaImm imm) := show 1 = operandCount 0xAB from rfl
theorem ldyAbs (addr : Word) : Statement (.ldyAbs addr) := show 2 = operandCount 0xAC from rfl
theorem ldaAbs (addr : Word) : Statement (.ldaAbs addr) := show 2 = operandCount 0xAD from rfl
theorem ldxAbs (addr : Word) : Statement (.ldxAbs addr) := show 2 = operandCount 0xAE from rfl
theorem laxAbs (addr : Word) : Statement (.laxAbs addr) := show 2 = operandCount 0xAF from rfl
theorem bcs (off : Int) : Statement (.bcs off) := show 1 = operandCount 0xB0 from rfl
theorem ldaIndY (zp : Byte) : Statement (.ldaIndY zp) := show 1 = operandCount 0xB1 from rfl
theorem jamB2 : Statement (.jamB2) := show 0 = operandCount 0xB2 from rfl
theorem laxIndY (zp : Byte) : Statement (.laxIndY zp) := show 1 = operandCount 0xB3 from rfl
theorem ldyZpX (zp : Byte) : Statement (.ldyZpX zp) := show 1 = operandCount 0xB4 from rfl
theorem ldaZpX (zp : Byte) : Statement (.ldaZpX zp) := show 1 = operandCount 0xB5 from rfl
theorem ldxZpY (zp : Byte) : Statement (.ldxZpY zp) := show 1 = operandCount 0xB6 from rfl
theorem laxZpY (zp : Byte) : Statement (.laxZpY zp) := show 1 = operandCount 0xB7 from rfl
theorem clv : Statement (.clv) := show 0 = operandCount 0xB8 from rfl
theorem ldaAbsY (addr : Word) : Statement (.ldaAbsY addr) := show 2 = operandCount 0xB9 from rfl
theorem tsx : Statement (.tsx) := show 0 = operandCount 0xBA from rfl
theorem lasAbsY (addr : Word) : Statement (.lasAbsY addr) := show 2 = operandCount 0xBB from rfl
theorem ldyAbsX (addr : Word) : Statement (.ldyAbsX addr) := show 2 = operandCount 0xBC from rfl
theorem ldaAbsX (addr : Word) : Statement (.ldaAbsX addr) := show 2 = operandCount 0xBD from rfl
theorem ldxAbsY (addr : Word) : Statement (.ldxAbsY addr) := show 2 = operandCount 0xBE from rfl
theorem laxAbsY (addr : Word) : Statement (.laxAbsY addr) := show 2 = operandCount 0xBF from rfl
theorem cpyImm (imm : Byte) : Statement (.cpyImm imm) := show 1 = operandCount 0xC0 from rfl
theorem cmpIndX (zp : Byte) : Statement (.cmpIndX zp) := show 1 = operandCount 0xC1 from rfl
theorem nopImmC2 (imm : Byte) : Statement (.nopImmC2 imm) := show 1 = operandCount 0xC2 from rfl
theorem dcpIndX (zp : Byte) : Statement (.dcpIndX zp) := show 1 = operandCount 0xC3 from rfl
theorem cpyZp (zp : Byte) : Statement (.cpyZp zp) := show 1 = operandCount 0xC4 from rfl
theorem cmpZp (zp : Byte) : Statement (.cmpZp zp) := show 1 = operandCount 0xC5 from rfl
theorem decZp (zp : Byte) : Statement (.decZp zp) := show 1 = operandCount 0xC6 from rfl
theorem dcpZp (zp : Byte) : Statement (.dcpZp zp) := show 1 = operandCount 0xC7 from rfl
theorem iny : Statement (.iny) := show 0 = operandCount 0xC8 from rfl
theorem cmpImm (imm : Byte) : Statement (.cmpImm imm) := show 1 = operandCount 0xC9 from rfl
theorem dex : Statement (.dex) := show 0 = operandCount 0xCA from rfl
theorem axsImm (imm : Byte) : Statement (.axsImm imm) := show 1 = operandCount 0xCB from rfl
theorem cpyAbs (addr : Word) : Statement (.cpyAbs addr) := show 2 = operandCount 0xCC from rfl
theorem cmpAbs (addr : Word) : Statement (.cmpAbs addr) := show 2 = operandCount 0xCD from rfl
theorem decAbs (addr : Word) : Statement (.decAbs addr) := show 2 = operandCount 0xCE from rfl
theorem dcpAbs (addr : Word) : Statement (.dcpAbs addr) := show 2 = operandCount 0xCF from rfl
theorem bne (off : Int) : Statement (.bne off) := show 1 = operandCount 0xD0 from rfl
theorem cmpIndY (zp : Byte) : Statement (.cmpIndY zp) := show 1 = operandCount 0xD1 from rfl
theorem jamD2 : Statement (.jamD2) := show 0 = operandCount 0xD2 from rfl
theorem dcpIndY (zp : Byte) : Statement (.dcpIndY zp) := show 1 = operandCount 0xD3 from rfl
theorem nopZpXD4 (zp : Byte) : Statement (.nopZpXD4 zp) := show 1 = operandCount 0xD4 from rfl
theorem cmpZpX (zp : Byte) : Statement (.cmpZpX zp) := show 1 = operandCount 0xD5 from rfl
theorem decZpX (zp : Byte) : Statement (.decZpX zp) := show 1 = operandCount 0xD6 from rfl
theorem dcpZpX (zp : Byte) : Statement (.dcpZpX zp) := show 1 = operandCount 0xD7 from rfl
theorem cld : Statement (.cld) := show 0 = operandCount 0xD8 from rfl
theorem cmpAbsY (addr : Word) : Statement (.cmpAbsY addr) := show 2 = operandCount 0xD9 from rfl
theorem nopImpDA : Statement (.nopImpDA) := show 0 = operandCount 0xDA from rfl
theorem dcpAbsY (addr : Word) : Statement (.dcpAbsY addr) := show 2 = operandCount 0xDB from rfl
theorem nopAbsXDC (addr : Word) : Statement (.nopAbsXDC addr) := show 2 = operandCount 0xDC from rfl
theorem cmpAbsX (addr : Word) : Statement (.cmpAbsX addr) := show 2 = operandCount 0xDD from rfl
theorem decAbsX (addr : Word) : Statement (.decAbsX addr) := show 2 = operandCount 0xDE from rfl
theorem dcpAbsX (addr : Word) : Statement (.dcpAbsX addr) := show 2 = operandCount 0xDF from rfl
theorem cpxImm (imm : Byte) : Statement (.cpxImm imm) := show 1 = operandCount 0xE0 from rfl
theorem sbcIndX (zp : Byte) : Statement (.sbcIndX zp) := show 1 = operandCount 0xE1 from rfl
theorem nopImmE2 (imm : Byte) : Statement (.nopImmE2 imm) := show 1 = operandCount 0xE2 from rfl
theorem isbIndX (zp : Byte) : Statement (.isbIndX zp) := show 1 = operandCount 0xE3 from rfl
theorem cpxZp (zp : Byte) : Statement (.cpxZp zp) := show 1 = operandCount 0xE4 from rfl
theorem sbcZp (zp : Byte) : Statement (.sbcZp zp) := show 1 = operandCount 0xE5 from rfl
theorem incZp (zp : Byte) : Statement (.incZp zp) := show 1 = operandCount 0xE6 from rfl
theorem isbZp (zp : Byte) : Statement (.isbZp zp) := show 1 = operandCount 0xE7 from rfl
theorem inx : Statement (.inx) := show 0 = operandCount 0xE8 from rfl
theorem sbcImm (imm : Byte) : Statement (.sbcImm imm) := show 1 = operandCount 0xE9 from rfl
theorem nop : Statement (.nop) := show 0 = operandCount 0xEA from rfl
theorem sbcImmEB (imm : Byte) : Statement (.sbcImmEB imm) := show 1 = operandCount 0xEB from rfl
theorem cpxAbs (addr : Word) : Statement (.cpxAbs addr) := show 2 = operandCount 0xEC from rfl
theorem sbcAbs (addr : Word) : Statement (.sbcAbs addr) := show 2 = operandCount 0xED from rfl
theorem incAbs (addr : Word) : Statement (.incAbs addr) := show 2 = operandCount 0xEE from rfl
theorem isbAbs (addr : Word) : Statement (.isbAbs addr) := show 2 = operandCount 0xEF from rfl
theorem beq (off : Int) : Statement (.beq off) := show 1 = operandCount 0xF0 from rfl
theorem sbcIndY (zp : Byte) : Statement (.sbcIndY zp) := show 1 = operandCount 0xF1 from rfl
theorem jamF2 : Statement (.jamF2) := show 0 = operandCount 0xF2 from rfl
theorem isbIndY (zp : Byte) : Statement (.isbIndY zp) := show 1 = operandCount 0xF3 from rfl
theorem nopZpXF4 (zp : Byte) : Statement (.nopZpXF4 zp) := show 1 = operandCount 0xF4 from rfl
theorem sbcZpX (zp : Byte) : Statement (.sbcZpX zp) := show 1 = operandCount 0xF5 from rfl
theorem incZpX (zp : Byte) : Statement (.incZpX zp) := show 1 = operandCount 0xF6 from rfl
theorem isbZpX (zp : Byte) : Statement (.isbZpX zp) := show 1 = operandCount 0xF7 from rfl
theorem sed : Statement (.sed) := show 0 = operandCount 0xF8 from rfl
theorem sbcAbsY (addr : Word) : Statement (.sbcAbsY addr) := show 2 = operandCount 0xF9 from rfl
theorem nopImpFA : Statement (.nopImpFA) := show 0 = operandCount 0xFA from rfl
theorem isbAbsY (addr : Word) : Statement (.isbAbsY addr) := show 2 = operandCount 0xFB from rfl
theorem nopAbsXFC (addr : Word) : Statement (.nopAbsXFC addr) := show 2 = operandCount 0xFC from rfl
theorem sbcAbsX (addr : Word) : Statement (.sbcAbsX addr) := show 2 = operandCount 0xFD from rfl
theorem incAbsX (addr : Word) : Statement (.incAbsX addr) := show 2 = operandCount 0xFE from rfl
theorem isbAbsX (addr : Word) : Statement (.isbAbsX addr) := show 2 = operandCount 0xFF from rfl

end Sys2Proof.Laws.EncodedLength
end

