-- ==== Sys2Proof/Tests/Slice0.lean ====
section
/-! SUPPORT. The package's own tests: ill-formed terms that WellFormed refuses; every opcode byte decoded from a word written
out from the spec's encoding; the spec's test vectors (95_test_vectors.md), one step or one operation each, grouped by
mnemonic; and a witness for each obligation that has hypotheses. -/

namespace Sys2Proof.Machine

/-! ## Helpers -/

/-- `f` of the next state; false for a fault or a refusal. -/
def onNext (o : Outcome) (f : State → Bool) : Bool :=
  match o with
  | .next t => f t
  | .fault _ => false
  | .refused _ => false

/-- The outcome is the fault `NotImplemented(a)`, and `f` holds of the state it keeps. -/
def stopsAt (a : Word) (o : Outcome) (f : State → Bool) : Bool :=
  match o with
  | .fault (.notImplemented addr t) => addr == a && f t
  | _ => false

/-- The outcome is the fault `Jam(pc)`, and `f` holds of the state it keeps. -/
def jamsAt (pc : Word) (o : Outcome) (f : State → Bool) : Bool :=
  match o with
  | .fault (.jam addr t) => addr == pc && f t
  | _ => false

/-- The refusal of an outcome. -/
def refusalOf (o : Outcome) : Option Refusal :=
  match o with
  | .refused r => some r
  | _ => none

/-- `f` of the state an operation leaves; false if it faults. -/
def onOk {α : Type} (r : Res α) (f : α → State → Bool) : Bool :=
  match r with
  | .ok v t => f v t
  | .stop _ => false

theorem next_of_onNext {o : Outcome} (h : onNext o (fun _ => true) = true) : ∃ t, o = .next t := by
  cases o with
  | next t => exact ⟨t, rfl⟩
  | fault f => exact nomatch h
  | refused r => exact nomatch h

theorem ok_of_onOk {α : Type} {r : Res α} (h : onOk r (fun _ _ => true) = true) : ∃ v t, r = .ok v t := by
  cases r with
  | ok v t => exact ⟨v, t, rfl⟩
  | stop f => exact nomatch h

/-- The vectors' default state: PC 0x8000, the NMI, reset and IRQ vectors 0xA000, 0x8000 and 0x9000. -/
def cpu : State := { State.reset with
  pc := 0x8000
  cart := { Cart.atReset with prgRom := [(0x3FFB, 0xA0), (0x3FFD, 0x80), (0x3FFF, 0x90)] } }

/-- The meaning of the instruction that these bytes decode to. -/
def run (s : State) (bytes : List Byte) : Outcome :=
  match decode bytes with
  | .ok (i, []) => exec i s
  | _ => .refused (.unsupportedCartridge)

/-! ## Ill-formed terms -/

theorem test_wellFormed_refuses :
    Instr.wellFormed (.bpl 128) = false ∧ Instr.wellFormed (.bmi (-129)) = false ∧
    Instr.wellFormed (.bvc 128) = false ∧ Instr.wellFormed (.bvs (-129)) = false ∧
    Instr.wellFormed (.bcc 255) = false ∧ Instr.wellFormed (.bcs (-256)) = false ∧
    Instr.wellFormed (.bne 1000) = false ∧ Instr.wellFormed (.beq (-1000)) = false := by decide

theorem test_wellFormed_admits :
    Instr.wellFormed (.bpl 127) = true ∧ Instr.wellFormed (.beq (-128)) = true ∧
    Instr.wellFormed (.ldaImm 0xFF) = true := by decide

/-! ## Decoding: every opcode byte -/

/-- Opcode bytes 0x00 to 0x0F (R157), with the operand byte 0x5A or the operand bytes 0x34 0x12 (R81, R141). -/
theorem test_decode_row_0 :
    decodeTableWord 8 0x00 = some .brk ∧
    decodeTableWord 16 0x5A01 = some (.oraIndX 0x5A) ∧
    decodeTableWord 8 0x02 = some .jam02 ∧
    decodeTableWord 16 0x5A03 = some (.sloIndX 0x5A) ∧
    decodeTableWord 16 0x5A04 = some (.nopZp04 0x5A) ∧
    decodeTableWord 16 0x5A05 = some (.oraZp 0x5A) ∧
    decodeTableWord 16 0x5A06 = some (.aslZp 0x5A) ∧
    decodeTableWord 16 0x5A07 = some (.sloZp 0x5A) ∧
    decodeTableWord 8 0x08 = some .php ∧
    decodeTableWord 16 0x5A09 = some (.oraImm 0x5A) ∧
    decodeTableWord 8 0x0A = some .aslAcc ∧
    decodeTableWord 16 0x5A0B = some (.ancImm0B 0x5A) ∧
    decodeTableWord 24 0x12340C = some (.nopAbs 0x1234) ∧
    decodeTableWord 24 0x12340D = some (.oraAbs 0x1234) ∧
    decodeTableWord 24 0x12340E = some (.aslAbs 0x1234) ∧
    decodeTableWord 24 0x12340F = some (.sloAbs 0x1234) := by decide

/-- Opcode bytes 0x10 to 0x1F (R157), with the operand byte 0x5A or the operand bytes 0x34 0x12 (R81, R141). -/
theorem test_decode_row_1 :
    decodeTableWord 16 0x8010 = some (.bpl (-128)) ∧
    decodeTableWord 16 0x5A11 = some (.oraIndY 0x5A) ∧
    decodeTableWord 8 0x12 = some .jam12 ∧
    decodeTableWord 16 0x5A13 = some (.sloIndY 0x5A) ∧
    decodeTableWord 16 0x5A14 = some (.nopZpX14 0x5A) ∧
    decodeTableWord 16 0x5A15 = some (.oraZpX 0x5A) ∧
    decodeTableWord 16 0x5A16 = some (.aslZpX 0x5A) ∧
    decodeTableWord 16 0x5A17 = some (.sloZpX 0x5A) ∧
    decodeTableWord 8 0x18 = some .clc ∧
    decodeTableWord 24 0x123419 = some (.oraAbsY 0x1234) ∧
    decodeTableWord 8 0x1A = some .nopImp1A ∧
    decodeTableWord 24 0x12341B = some (.sloAbsY 0x1234) ∧
    decodeTableWord 24 0x12341C = some (.nopAbsX1C 0x1234) ∧
    decodeTableWord 24 0x12341D = some (.oraAbsX 0x1234) ∧
    decodeTableWord 24 0x12341E = some (.aslAbsX 0x1234) ∧
    decodeTableWord 24 0x12341F = some (.sloAbsX 0x1234) := by decide

/-- Opcode bytes 0x20 to 0x2F (R157), with the operand byte 0x5A or the operand bytes 0x34 0x12 (R81, R141). -/
theorem test_decode_row_2 :
    decodeTableWord 24 0x123420 = some (.jsrAbs 0x1234) ∧
    decodeTableWord 16 0x5A21 = some (.andIndX 0x5A) ∧
    decodeTableWord 8 0x22 = some .jam22 ∧
    decodeTableWord 16 0x5A23 = some (.rlaIndX 0x5A) ∧
    decodeTableWord 16 0x5A24 = some (.bitZp 0x5A) ∧
    decodeTableWord 16 0x5A25 = some (.andZp 0x5A) ∧
    decodeTableWord 16 0x5A26 = some (.rolZp 0x5A) ∧
    decodeTableWord 16 0x5A27 = some (.rlaZp 0x5A) ∧
    decodeTableWord 8 0x28 = some .plp ∧
    decodeTableWord 16 0x5A29 = some (.andImm 0x5A) ∧
    decodeTableWord 8 0x2A = some .rolAcc ∧
    decodeTableWord 16 0x5A2B = some (.ancImm2B 0x5A) ∧
    decodeTableWord 24 0x12342C = some (.bitAbs 0x1234) ∧
    decodeTableWord 24 0x12342D = some (.andAbs 0x1234) ∧
    decodeTableWord 24 0x12342E = some (.rolAbs 0x1234) ∧
    decodeTableWord 24 0x12342F = some (.rlaAbs 0x1234) := by decide

/-- Opcode bytes 0x30 to 0x3F (R157), with the operand byte 0x5A or the operand bytes 0x34 0x12 (R81, R141). -/
theorem test_decode_row_3 :
    decodeTableWord 16 0x8030 = some (.bmi (-128)) ∧
    decodeTableWord 16 0x5A31 = some (.andIndY 0x5A) ∧
    decodeTableWord 8 0x32 = some .jam32 ∧
    decodeTableWord 16 0x5A33 = some (.rlaIndY 0x5A) ∧
    decodeTableWord 16 0x5A34 = some (.nopZpX34 0x5A) ∧
    decodeTableWord 16 0x5A35 = some (.andZpX 0x5A) ∧
    decodeTableWord 16 0x5A36 = some (.rolZpX 0x5A) ∧
    decodeTableWord 16 0x5A37 = some (.rlaZpX 0x5A) ∧
    decodeTableWord 8 0x38 = some .sec ∧
    decodeTableWord 24 0x123439 = some (.andAbsY 0x1234) ∧
    decodeTableWord 8 0x3A = some .nopImp3A ∧
    decodeTableWord 24 0x12343B = some (.rlaAbsY 0x1234) ∧
    decodeTableWord 24 0x12343C = some (.nopAbsX3C 0x1234) ∧
    decodeTableWord 24 0x12343D = some (.andAbsX 0x1234) ∧
    decodeTableWord 24 0x12343E = some (.rolAbsX 0x1234) ∧
    decodeTableWord 24 0x12343F = some (.rlaAbsX 0x1234) := by decide

/-- Opcode bytes 0x40 to 0x4F (R157), with the operand byte 0x5A or the operand bytes 0x34 0x12 (R81, R141). -/
theorem test_decode_row_4 :
    decodeTableWord 8 0x40 = some .rti ∧
    decodeTableWord 16 0x5A41 = some (.eorIndX 0x5A) ∧
    decodeTableWord 8 0x42 = some .jam42 ∧
    decodeTableWord 16 0x5A43 = some (.sreIndX 0x5A) ∧
    decodeTableWord 16 0x5A44 = some (.nopZp44 0x5A) ∧
    decodeTableWord 16 0x5A45 = some (.eorZp 0x5A) ∧
    decodeTableWord 16 0x5A46 = some (.lsrZp 0x5A) ∧
    decodeTableWord 16 0x5A47 = some (.sreZp 0x5A) ∧
    decodeTableWord 8 0x48 = some .pha ∧
    decodeTableWord 16 0x5A49 = some (.eorImm 0x5A) ∧
    decodeTableWord 8 0x4A = some .lsrAcc ∧
    decodeTableWord 16 0x5A4B = some (.alrImm 0x5A) ∧
    decodeTableWord 24 0x12344C = some (.jmpAbs 0x1234) ∧
    decodeTableWord 24 0x12344D = some (.eorAbs 0x1234) ∧
    decodeTableWord 24 0x12344E = some (.lsrAbs 0x1234) ∧
    decodeTableWord 24 0x12344F = some (.sreAbs 0x1234) := by decide

/-- Opcode bytes 0x50 to 0x5F (R157), with the operand byte 0x5A or the operand bytes 0x34 0x12 (R81, R141). -/
theorem test_decode_row_5 :
    decodeTableWord 16 0x8050 = some (.bvc (-128)) ∧
    decodeTableWord 16 0x5A51 = some (.eorIndY 0x5A) ∧
    decodeTableWord 8 0x52 = some .jam52 ∧
    decodeTableWord 16 0x5A53 = some (.sreIndY 0x5A) ∧
    decodeTableWord 16 0x5A54 = some (.nopZpX54 0x5A) ∧
    decodeTableWord 16 0x5A55 = some (.eorZpX 0x5A) ∧
    decodeTableWord 16 0x5A56 = some (.lsrZpX 0x5A) ∧
    decodeTableWord 16 0x5A57 = some (.sreZpX 0x5A) ∧
    decodeTableWord 8 0x58 = some .cli ∧
    decodeTableWord 24 0x123459 = some (.eorAbsY 0x1234) ∧
    decodeTableWord 8 0x5A = some .nopImp5A ∧
    decodeTableWord 24 0x12345B = some (.sreAbsY 0x1234) ∧
    decodeTableWord 24 0x12345C = some (.nopAbsX5C 0x1234) ∧
    decodeTableWord 24 0x12345D = some (.eorAbsX 0x1234) ∧
    decodeTableWord 24 0x12345E = some (.lsrAbsX 0x1234) ∧
    decodeTableWord 24 0x12345F = some (.sreAbsX 0x1234) := by decide

/-- Opcode bytes 0x60 to 0x6F (R157), with the operand byte 0x5A or the operand bytes 0x34 0x12 (R81, R141). -/
theorem test_decode_row_6 :
    decodeTableWord 8 0x60 = some .rts ∧
    decodeTableWord 16 0x5A61 = some (.adcIndX 0x5A) ∧
    decodeTableWord 8 0x62 = some .jam62 ∧
    decodeTableWord 16 0x5A63 = some (.rraIndX 0x5A) ∧
    decodeTableWord 16 0x5A64 = some (.nopZp64 0x5A) ∧
    decodeTableWord 16 0x5A65 = some (.adcZp 0x5A) ∧
    decodeTableWord 16 0x5A66 = some (.rorZp 0x5A) ∧
    decodeTableWord 16 0x5A67 = some (.rraZp 0x5A) ∧
    decodeTableWord 8 0x68 = some .pla ∧
    decodeTableWord 16 0x5A69 = some (.adcImm 0x5A) ∧
    decodeTableWord 8 0x6A = some .rorAcc ∧
    decodeTableWord 16 0x5A6B = some (.arrImm 0x5A) ∧
    decodeTableWord 24 0x12346C = some (.jmpInd 0x1234) ∧
    decodeTableWord 24 0x12346D = some (.adcAbs 0x1234) ∧
    decodeTableWord 24 0x12346E = some (.rorAbs 0x1234) ∧
    decodeTableWord 24 0x12346F = some (.rraAbs 0x1234) := by decide

/-- Opcode bytes 0x70 to 0x7F (R157), with the operand byte 0x5A or the operand bytes 0x34 0x12 (R81, R141). -/
theorem test_decode_row_7 :
    decodeTableWord 16 0x8070 = some (.bvs (-128)) ∧
    decodeTableWord 16 0x5A71 = some (.adcIndY 0x5A) ∧
    decodeTableWord 8 0x72 = some .jam72 ∧
    decodeTableWord 16 0x5A73 = some (.rraIndY 0x5A) ∧
    decodeTableWord 16 0x5A74 = some (.nopZpX74 0x5A) ∧
    decodeTableWord 16 0x5A75 = some (.adcZpX 0x5A) ∧
    decodeTableWord 16 0x5A76 = some (.rorZpX 0x5A) ∧
    decodeTableWord 16 0x5A77 = some (.rraZpX 0x5A) ∧
    decodeTableWord 8 0x78 = some .sei ∧
    decodeTableWord 24 0x123479 = some (.adcAbsY 0x1234) ∧
    decodeTableWord 8 0x7A = some .nopImp7A ∧
    decodeTableWord 24 0x12347B = some (.rraAbsY 0x1234) ∧
    decodeTableWord 24 0x12347C = some (.nopAbsX7C 0x1234) ∧
    decodeTableWord 24 0x12347D = some (.adcAbsX 0x1234) ∧
    decodeTableWord 24 0x12347E = some (.rorAbsX 0x1234) ∧
    decodeTableWord 24 0x12347F = some (.rraAbsX 0x1234) := by decide

/-- Opcode bytes 0x80 to 0x8F (R157), with the operand byte 0x5A or the operand bytes 0x34 0x12 (R81, R141). -/
theorem test_decode_row_8 :
    decodeTableWord 16 0x5A80 = some (.nopImm80 0x5A) ∧
    decodeTableWord 16 0x5A81 = some (.staIndX 0x5A) ∧
    decodeTableWord 16 0x5A82 = some (.nopImm82 0x5A) ∧
    decodeTableWord 16 0x5A83 = some (.saxIndX 0x5A) ∧
    decodeTableWord 16 0x5A84 = some (.styZp 0x5A) ∧
    decodeTableWord 16 0x5A85 = some (.staZp 0x5A) ∧
    decodeTableWord 16 0x5A86 = some (.stxZp 0x5A) ∧
    decodeTableWord 16 0x5A87 = some (.saxZp 0x5A) ∧
    decodeTableWord 8 0x88 = some .dey ∧
    decodeTableWord 16 0x5A89 = some (.nopImm89 0x5A) ∧
    decodeTableWord 8 0x8A = some .txa ∧
    decodeTableWord 16 0x5A8B = some (.xaaImm 0x5A) ∧
    decodeTableWord 24 0x12348C = some (.styAbs 0x1234) ∧
    decodeTableWord 24 0x12348D = some (.staAbs 0x1234) ∧
    decodeTableWord 24 0x12348E = some (.stxAbs 0x1234) ∧
    decodeTableWord 24 0x12348F = some (.saxAbs 0x1234) := by decide

/-- Opcode bytes 0x90 to 0x9F (R157), with the operand byte 0x5A or the operand bytes 0x34 0x12 (R81, R141). -/
theorem test_decode_row_9 :
    decodeTableWord 16 0x8090 = some (.bcc (-128)) ∧
    decodeTableWord 16 0x5A91 = some (.staIndY 0x5A) ∧
    decodeTableWord 8 0x92 = some .jam92 ∧
    decodeTableWord 16 0x5A93 = some (.ahxIndY 0x5A) ∧
    decodeTableWord 16 0x5A94 = some (.styZpX 0x5A) ∧
    decodeTableWord 16 0x5A95 = some (.staZpX 0x5A) ∧
    decodeTableWord 16 0x5A96 = some (.stxZpY 0x5A) ∧
    decodeTableWord 16 0x5A97 = some (.saxZpY 0x5A) ∧
    decodeTableWord 8 0x98 = some .tya ∧
    decodeTableWord 24 0x123499 = some (.staAbsY 0x1234) ∧
    decodeTableWord 8 0x9A = some .txs ∧
    decodeTableWord 24 0x12349B = some (.tasAbsY 0x1234) ∧
    decodeTableWord 24 0x12349C = some (.shyAbsX 0x1234) ∧
    decodeTableWord 24 0x12349D = some (.staAbsX 0x1234) ∧
    decodeTableWord 24 0x12349E = some (.shxAbsY 0x1234) ∧
    decodeTableWord 24 0x12349F = some (.ahxAbsY 0x1234) := by decide

/-- Opcode bytes 0xA0 to 0xAF (R157), with the operand byte 0x5A or the operand bytes 0x34 0x12 (R81, R141). -/
theorem test_decode_row_A :
    decodeTableWord 16 0x5AA0 = some (.ldyImm 0x5A) ∧
    decodeTableWord 16 0x5AA1 = some (.ldaIndX 0x5A) ∧
    decodeTableWord 16 0x5AA2 = some (.ldxImm 0x5A) ∧
    decodeTableWord 16 0x5AA3 = some (.laxIndX 0x5A) ∧
    decodeTableWord 16 0x5AA4 = some (.ldyZp 0x5A) ∧
    decodeTableWord 16 0x5AA5 = some (.ldaZp 0x5A) ∧
    decodeTableWord 16 0x5AA6 = some (.ldxZp 0x5A) ∧
    decodeTableWord 16 0x5AA7 = some (.laxZp 0x5A) ∧
    decodeTableWord 8 0xA8 = some .tay ∧
    decodeTableWord 16 0x5AA9 = some (.ldaImm 0x5A) ∧
    decodeTableWord 8 0xAA = some .tax ∧
    decodeTableWord 16 0x5AAB = some (.lxaImm 0x5A) ∧
    decodeTableWord 24 0x1234AC = some (.ldyAbs 0x1234) ∧
    decodeTableWord 24 0x1234AD = some (.ldaAbs 0x1234) ∧
    decodeTableWord 24 0x1234AE = some (.ldxAbs 0x1234) ∧
    decodeTableWord 24 0x1234AF = some (.laxAbs 0x1234) := by decide

/-- Opcode bytes 0xB0 to 0xBF (R157), with the operand byte 0x5A or the operand bytes 0x34 0x12 (R81, R141). -/
theorem test_decode_row_B :
    decodeTableWord 16 0x80B0 = some (.bcs (-128)) ∧
    decodeTableWord 16 0x5AB1 = some (.ldaIndY 0x5A) ∧
    decodeTableWord 8 0xB2 = some .jamB2 ∧
    decodeTableWord 16 0x5AB3 = some (.laxIndY 0x5A) ∧
    decodeTableWord 16 0x5AB4 = some (.ldyZpX 0x5A) ∧
    decodeTableWord 16 0x5AB5 = some (.ldaZpX 0x5A) ∧
    decodeTableWord 16 0x5AB6 = some (.ldxZpY 0x5A) ∧
    decodeTableWord 16 0x5AB7 = some (.laxZpY 0x5A) ∧
    decodeTableWord 8 0xB8 = some .clv ∧
    decodeTableWord 24 0x1234B9 = some (.ldaAbsY 0x1234) ∧
    decodeTableWord 8 0xBA = some .tsx ∧
    decodeTableWord 24 0x1234BB = some (.lasAbsY 0x1234) ∧
    decodeTableWord 24 0x1234BC = some (.ldyAbsX 0x1234) ∧
    decodeTableWord 24 0x1234BD = some (.ldaAbsX 0x1234) ∧
    decodeTableWord 24 0x1234BE = some (.ldxAbsY 0x1234) ∧
    decodeTableWord 24 0x1234BF = some (.laxAbsY 0x1234) := by decide

/-- Opcode bytes 0xC0 to 0xCF (R157), with the operand byte 0x5A or the operand bytes 0x34 0x12 (R81, R141). -/
theorem test_decode_row_C :
    decodeTableWord 16 0x5AC0 = some (.cpyImm 0x5A) ∧
    decodeTableWord 16 0x5AC1 = some (.cmpIndX 0x5A) ∧
    decodeTableWord 16 0x5AC2 = some (.nopImmC2 0x5A) ∧
    decodeTableWord 16 0x5AC3 = some (.dcpIndX 0x5A) ∧
    decodeTableWord 16 0x5AC4 = some (.cpyZp 0x5A) ∧
    decodeTableWord 16 0x5AC5 = some (.cmpZp 0x5A) ∧
    decodeTableWord 16 0x5AC6 = some (.decZp 0x5A) ∧
    decodeTableWord 16 0x5AC7 = some (.dcpZp 0x5A) ∧
    decodeTableWord 8 0xC8 = some .iny ∧
    decodeTableWord 16 0x5AC9 = some (.cmpImm 0x5A) ∧
    decodeTableWord 8 0xCA = some .dex ∧
    decodeTableWord 16 0x5ACB = some (.axsImm 0x5A) ∧
    decodeTableWord 24 0x1234CC = some (.cpyAbs 0x1234) ∧
    decodeTableWord 24 0x1234CD = some (.cmpAbs 0x1234) ∧
    decodeTableWord 24 0x1234CE = some (.decAbs 0x1234) ∧
    decodeTableWord 24 0x1234CF = some (.dcpAbs 0x1234) := by decide

/-- Opcode bytes 0xD0 to 0xDF (R157), with the operand byte 0x5A or the operand bytes 0x34 0x12 (R81, R141). -/
theorem test_decode_row_D :
    decodeTableWord 16 0x80D0 = some (.bne (-128)) ∧
    decodeTableWord 16 0x5AD1 = some (.cmpIndY 0x5A) ∧
    decodeTableWord 8 0xD2 = some .jamD2 ∧
    decodeTableWord 16 0x5AD3 = some (.dcpIndY 0x5A) ∧
    decodeTableWord 16 0x5AD4 = some (.nopZpXD4 0x5A) ∧
    decodeTableWord 16 0x5AD5 = some (.cmpZpX 0x5A) ∧
    decodeTableWord 16 0x5AD6 = some (.decZpX 0x5A) ∧
    decodeTableWord 16 0x5AD7 = some (.dcpZpX 0x5A) ∧
    decodeTableWord 8 0xD8 = some .cld ∧
    decodeTableWord 24 0x1234D9 = some (.cmpAbsY 0x1234) ∧
    decodeTableWord 8 0xDA = some .nopImpDA ∧
    decodeTableWord 24 0x1234DB = some (.dcpAbsY 0x1234) ∧
    decodeTableWord 24 0x1234DC = some (.nopAbsXDC 0x1234) ∧
    decodeTableWord 24 0x1234DD = some (.cmpAbsX 0x1234) ∧
    decodeTableWord 24 0x1234DE = some (.decAbsX 0x1234) ∧
    decodeTableWord 24 0x1234DF = some (.dcpAbsX 0x1234) := by decide

/-- Opcode bytes 0xE0 to 0xEF (R157), with the operand byte 0x5A or the operand bytes 0x34 0x12 (R81, R141). -/
theorem test_decode_row_E :
    decodeTableWord 16 0x5AE0 = some (.cpxImm 0x5A) ∧
    decodeTableWord 16 0x5AE1 = some (.sbcIndX 0x5A) ∧
    decodeTableWord 16 0x5AE2 = some (.nopImmE2 0x5A) ∧
    decodeTableWord 16 0x5AE3 = some (.isbIndX 0x5A) ∧
    decodeTableWord 16 0x5AE4 = some (.cpxZp 0x5A) ∧
    decodeTableWord 16 0x5AE5 = some (.sbcZp 0x5A) ∧
    decodeTableWord 16 0x5AE6 = some (.incZp 0x5A) ∧
    decodeTableWord 16 0x5AE7 = some (.isbZp 0x5A) ∧
    decodeTableWord 8 0xE8 = some .inx ∧
    decodeTableWord 16 0x5AE9 = some (.sbcImm 0x5A) ∧
    decodeTableWord 8 0xEA = some .nop ∧
    decodeTableWord 16 0x5AEB = some (.sbcImmEB 0x5A) ∧
    decodeTableWord 24 0x1234EC = some (.cpxAbs 0x1234) ∧
    decodeTableWord 24 0x1234ED = some (.sbcAbs 0x1234) ∧
    decodeTableWord 24 0x1234EE = some (.incAbs 0x1234) ∧
    decodeTableWord 24 0x1234EF = some (.isbAbs 0x1234) := by decide

/-- Opcode bytes 0xF0 to 0xFF (R157), with the operand byte 0x5A or the operand bytes 0x34 0x12 (R81, R141). -/
theorem test_decode_row_F :
    decodeTableWord 16 0x80F0 = some (.beq (-128)) ∧
    decodeTableWord 16 0x5AF1 = some (.sbcIndY 0x5A) ∧
    decodeTableWord 8 0xF2 = some .jamF2 ∧
    decodeTableWord 16 0x5AF3 = some (.isbIndY 0x5A) ∧
    decodeTableWord 16 0x5AF4 = some (.nopZpXF4 0x5A) ∧
    decodeTableWord 16 0x5AF5 = some (.sbcZpX 0x5A) ∧
    decodeTableWord 16 0x5AF6 = some (.incZpX 0x5A) ∧
    decodeTableWord 16 0x5AF7 = some (.isbZpX 0x5A) ∧
    decodeTableWord 8 0xF8 = some .sed ∧
    decodeTableWord 24 0x1234F9 = some (.sbcAbsY 0x1234) ∧
    decodeTableWord 8 0xFA = some .nopImpFA ∧
    decodeTableWord 24 0x1234FB = some (.isbAbsY 0x1234) ∧
    decodeTableWord 24 0x1234FC = some (.nopAbsXFC 0x1234) ∧
    decodeTableWord 24 0x1234FD = some (.sbcAbsX 0x1234) ∧
    decodeTableWord 24 0x1234FE = some (.incAbsX 0x1234) ∧
    decodeTableWord 24 0x1234FF = some (.isbAbsX 0x1234) := by decide

/-- Bytes that make no whole instruction are rejected by name (R141). -/
theorem test_decode_rejects :
    decode [] = .error .noBytes ∧ decode [0xA9] = .error (.truncated 0xA9) ∧
    decode [0xAD, 0x34] = .error (.truncated 0xAD) ∧ decode [0xA9, 0x80, 0x77] = .ok (.ldaImm 0x80, [0x77]) := by decide

/-! ## Placing and fetching an instruction -/

/-- LDA #$80 placed at reset runs as the first instruction. -/
theorem test_withFetchWord_lda : (onNext (step (State.reset.withFetchWord 16 0x80A9)) fun t =>
    t.a == 0x80 && t.p.n && t.pc == 2 && t.cycles == 9 && t.ppu.dot == 5 && t.ppu.scanline == 241) := by decide

/-- JAM placed at reset stops with its own address, and the fault keeps PC past it (R165, D46). -/
theorem test_withFetchWord_jam :
    (jamsAt 0 (step (State.reset.withFetchWord 8 0x02)) fun t => t.pc == 1 && t.cycles == 9) := by decide

/-- `State.reset` is what console construction gives from the defaults that log entries 3, 5 and 6 name. -/
theorem test_reset_is_constructed :
    construct CartValue.atReset PowerOn.atReset Params.atReset [] = .next State.reset := rfl

/-! ## The spec's CPU vectors, by mnemonic -/

/-- V-AM-01, V-AM-02, V-AM-03, V-AM-05, V-AM-06, V-AM-07, V-AM-08, V-AM-10, V-AM-11, V-AM-12, V-AM-13, V-AM-14, V-AM-15, V-AM-16, V-LS-01. -/
theorem test_lda :
    (onNext (run cpu [0xA9, 0x7F]) fun t => t.a == 0x7F && t.pc == 0x8002 && t.cycles == 7 + 2) ∧
    (onNext (run { cpu with ram := [(0x0010, 0x42)] } [0xA5, 0x10]) fun t => t.a == 0x42 && t.pc == 0x8002 &&
      t.cycles == 7 + 3) ∧
    (onNext (run { cpu with x := 0x01, ram := [(0x0000, 0x11), (0x0100, 0x22)] } [0xB5, 0xFF]) fun t =>
      t.a == 0x11 && t.cycles == 7 + 4) ∧
    (onNext (run { cpu with ram := [(0x0234, 0x55)] } [0xAD, 0x34, 0x02]) fun t => t.a == 0x55 && t.pc == 0x8003 &&
      t.cycles == 7 + 4) ∧
    (onNext (run { cpu with x := 0x10, ram := [(0x0210, 0x66)] } [0xBD, 0x00, 0x02]) fun t => t.a == 0x66 &&
      t.cycles == 7 + 4) ∧
    (onNext (run { cpu with x := 0x01, ram := [(0x0300, 0x77)] } [0xBD, 0xFF, 0x02]) fun t => t.a == 0x77 &&
      t.cycles == 7 + 5) ∧
    (onNext (run { cpu with y := 0x01, ram := [(0x0300, 0x78)] } [0xB9, 0xFF, 0x02]) fun t => t.a == 0x78 &&
      t.cycles == 7 + 5) ∧
    (onNext (run { cpu with x := 0x01, ram := [(0x0000, 0x5C)] } [0xBD, 0xFF, 0xFF]) fun t => t.a == 0x5C &&
      t.cycles == 7 + 5) ∧
    (onNext (run { cpu with x := 0x04, ram := [(0x0025, 0x03), (0x0300, 0xAB)] } [0xA1, 0x20]) fun t =>
      t.a == 0xAB && t.cycles == 7 + 6) ∧
    (onNext (run { cpu with x := 0x01, ram := [(0x0001, 0x04), (0x00FF, 0x12), (0x0100, 0x05), (0x0400,
      0xCD)] } [0xA1, 0xFF]) fun t => t.a == 0xCD && t.cycles == 7 + 6) ∧
    (onNext (run { cpu with x := 0x00, ram := [(0x0000, 0x04), (0x0100, 0x05), (0x0400, 0xCE), (0x0500,
      0xEE)] } [0xA1, 0xFF]) fun t => t.a == 0xCE && t.cycles == 7 + 6) ∧
    (onNext (run { cpu with y := 0x10, ram := [(0x0041, 0x03), (0x0310, 0x9A)] } [0xB1, 0x40]) fun t =>
      t.a == 0x9A && t.cycles == 7 + 5) ∧
    (onNext (run { cpu with y := 0x10, ram := [(0x0040, 0xF8), (0x0041, 0x03), (0x0408, 0x9B)] } [0xB1,
      0x40]) fun t => t.a == 0x9B && t.cycles == 7 + 6) ∧
    (onNext (run { cpu with y := 0x00, ram := [(0x0000, 0x06), (0x0600, 0x3C)] } [0xB1, 0xFF]) fun t =>
      t.a == 0x3C && t.cycles == 7 + 5) ∧
    (onNext (run cpu [0xA9, 0x00]) fun t => t.a == 0x00 && t.p.z == true && t.p.n == false) := by decide

/-- V-AM-04, V-LS-02. -/
theorem test_ldx :
    (onNext (run { cpu with y := 0x02, ram := [(0x0001, 0x33)] } [0xB6, 0xFF]) fun t => t.x == 0x33 &&
      t.cycles == 7 + 4) ∧
    (onNext (run cpu [0xA2, 0x80]) fun t => t.x == 0x80 && t.p.z == false && t.p.n == true) := by decide

/-- V-AM-09, V-LS-04. -/
theorem test_sta :
    (onNext (run { cpu with x := 0x01, a := 0x99 } [0x9D, 0xFF, 0x02]) fun t => t.ram.read 0x300 == 0x99 &&
      t.cycles == 7 + 5) ∧
    (onNext (run { cpu with a := 0x5A } [0x85, 0x10]) fun t => t.ram.read 0x010 == 0x5A &&
      t.p == Status.unpack 0x24 && t.cycles == 7 + 3) := by decide

/-- V-AM-17, V-CT-15, V-CT-16, V-CT-31. -/
theorem test_jmp :
    (onNext (run { cpu with ram := [(0x0200, 0x12), (0x02FF, 0x80), (0x0300, 0x34)] } [0x6C, 0xFF, 0x02]) fun t =>
      t.pc == 0x1280 && t.cycles == 7 + 5) ∧
    (onNext (run cpu [0x4C, 0x34, 0x12]) fun t => t.pc == 0x1234 && t.cycles == 7 + 3) ∧
    (onNext (run { cpu with ram := [(0x0301, 0x90)] } [0x6C, 0x00, 0x03]) fun t => t.pc == 0x9000 &&
      t.cycles == 7 + 5) ∧
    (onNext (run cpu [0x4C, 0xFF, 0xFF]) fun t => t.pc == 0xFFFF && t.cycles == 7 + 3) := by decide

/-- V-AM-18, V-AL-26. -/
theorem test_asl :
    (onNext (run { cpu with a := 0x81 } [0x0A]) fun t => t.a == 0x02 && t.p.c == true && t.pc == 0x8001 &&
      t.cycles == 7 + 2) ∧
    (onNext (run { cpu with p := { cpu.p with c := false }, ram := [(0x0010, 0x80)] } [0x06, 0x10]) fun t =>
      t.ram.read 0x010 == 0x00 && t.p.c == true && t.p.z == true && t.p.n == false && t.cycles == 7 + 5) := by decide

/-- V-LS-03. -/
theorem test_ldy :
    (onNext (run cpu [0xA0, 0x01]) fun t => t.y == 0x01 && t.p.z == false && t.p.n == false) := by decide

/-- V-LS-05. -/
theorem test_stx :
    (onNext (run { cpu with x := 0x5B } [0x8E, 0x00, 0x08]) fun t => t.ram.read 0x000 == 0x5B && t.cycles == 7 + 4) := by decide

/-- V-LS-06. -/
theorem test_sty :
    (onNext (run { cpu with y := 0x5C, x := 0x01 } [0x94, 0xFF]) fun t => t.ram.read 0x000 == 0x5C &&
      t.cycles == 7 + 4) := by decide

/-- V-LS-07. -/
theorem test_tax :
    (onNext (run { cpu with a := 0x00, x := 0x33 } [0xAA]) fun t => t.x == 0x00 && t.p.z == true && t.p.n == false) := by decide

/-- V-LS-08. -/
theorem test_tay :
    (onNext (run { cpu with a := 0xF0 } [0xA8]) fun t => t.y == 0xF0 && t.p.n == true) := by decide

/-- V-LS-09. -/
theorem test_txa :
    (onNext (run { cpu with x := 0x00, a := 0x44 } [0x8A]) fun t => t.a == 0x00 && t.p.z == true) := by decide

/-- V-LS-10. -/
theorem test_tya :
    (onNext (run { cpu with y := 0x80 } [0x98]) fun t => t.a == 0x80 && t.p.n == true) := by decide

/-- V-LS-11. -/
theorem test_tsx :
    (onNext (run cpu [0xBA]) fun t => t.x == 0xFD && t.p.n == true && t.p.z == false) := by decide

/-- V-LS-12. -/
theorem test_txs :
    (onNext (run { cpu with x := 0x00 } [0x9A]) fun t => t.sp == 0x00 && t.p.z == false && t.p == Status.unpack 0x24) := by decide

/-- V-LS-13, V-LS-18. -/
theorem test_pha :
    (onNext (run { cpu with a := 0x77 } [0x48]) fun t => t.sp == 0xFC && t.ram.read 0x1FD == 0x77 &&
      t.cycles == 7 + 3) ∧
    (onNext (run { cpu with sp := 0x00, a := 0x12 } [0x48]) fun t => t.sp == 0xFF && t.ram.read 0x100 == 0x12) := by decide

/-- V-LS-14. -/
theorem test_php :
    (onNext (run { cpu with p := Status.unpack 0xC3 } [0x08]) fun t => t.sp == 0xFC && t.ram.read 0x1FD == 0xF3 &&
      t.p == Status.unpack 0xE3 && t.cycles == 7 + 3) := by decide

/-- V-LS-15, V-LS-19. -/
theorem test_pla :
    (onNext (run { cpu with sp := 0xFC, ram := [] } [0x68]) fun t => t.a == 0x00 && t.sp == 0xFD && t.p.z == true &&
      t.p.n == false && t.cycles == 7 + 4) ∧
    (onNext (run { cpu with sp := 0xFF, ram := [(0x0100, 0x21)] } [0x68]) fun t => t.a == 0x21 && t.sp == 0x00) := by decide

/-- V-LS-16, V-LS-17. -/
theorem test_plp :
    (onNext (run { cpu with sp := 0xFC, ram := [(0x01FD, 0xFF)] } [0x28]) fun t => t.p == Status.unpack 0xEF &&
      t.sp == 0xFD && t.cycles == 7 + 4) ∧
    (onNext (run { cpu with sp := 0xFC, ram := [] } [0x28]) fun t => t.p == Status.unpack 0x20) := by decide

/-- V-AL-01, V-AL-03, V-AL-04, V-AL-05, V-AL-08. -/
theorem test_adc :
    (onNext (run { cpu with a := 0x50, p := { cpu.p with c := false } } [0x69, 0x50]) fun t => t.a == 0xA0 &&
      t.p.c == false && t.p.v == true && t.p.n == true && t.p.z == false) ∧
    (onNext (run { cpu with a := 0xFF, p := { cpu.p with c := false } } [0x69, 0x01]) fun t => t.a == 0x00 &&
      t.p.c == true && t.p.v == false && t.p.z == true && t.p.n == false) ∧
    (onNext (run { cpu with a := 0x80, p := { cpu.p with c := false } } [0x69, 0x80]) fun t => t.a == 0x00 &&
      t.p.c == true && t.p.v == true && t.p.z == true && t.p.n == false) ∧
    (onNext (run { cpu with a := 0x7F, p := { cpu.p with c := true } } [0x69, 0x00]) fun t => t.a == 0x80 &&
      t.p.c == false && t.p.v == true && t.p.n == true) ∧
    (onNext (run { cpu with a := 0x09, p := { cpu.p with c := false, d := true } } [0x69, 0x01]) fun t =>
      t.a == 0x0A && t.p.d == true && t.p.c == false) := by decide

/-- V-AL-02, V-AL-06, V-AL-07, V-UD-23. -/
theorem test_sbc :
    (onNext (run { cpu with a := 0x50, p := { cpu.p with c := true } } [0xE9, 0xB0]) fun t => t.a == 0xA0 &&
      t.p.c == false && t.p.v == true && t.p.n == true && t.p.z == false) ∧
    (onNext (run { cpu with a := 0x00, p := { cpu.p with c := false } } [0xE9, 0x00]) fun t => t.a == 0xFF &&
      t.p.c == false && t.p.v == false && t.p.z == false && t.p.n == true) ∧
    (onNext (run { cpu with a := 0x80, p := { cpu.p with c := true } } [0xE9, 0x01]) fun t => t.a == 0x7F &&
      t.p.c == true && t.p.v == true && t.p.n == false) ∧
    (onNext (run { cpu with a := 0x50, p := { cpu.p with c := true } } [0xEB, 0xB0]) fun t => t.a == 0xA0 &&
      t.p.c == false && t.p.v == true && t.p.n == true) := by decide

/-- V-AL-09. -/
theorem test_and :
    (onNext (run { cpu with a := 0xF0 } [0x29, 0x0F]) fun t => t.a == 0x00 && t.p.z == true && t.p.n == false) := by decide

/-- V-AL-10. -/
theorem test_ora :
    (onNext (run { cpu with a := 0x80 } [0x09, 0x01]) fun t => t.a == 0x81 && t.p.z == false && t.p.n == true) := by decide

/-- V-AL-11. -/
theorem test_eor :
    (onNext (run { cpu with a := 0xFF } [0x49, 0xFF]) fun t => t.a == 0x00 && t.p.z == true && t.p.n == false) := by decide

/-- V-AL-12, V-AL-13, V-AL-14. -/
theorem test_cmp :
    (onNext (run { cpu with a := 0x40 } [0xC9, 0x40]) fun t => t.p.c == true && t.p.z == true && t.p.n == false &&
      t.a == 0x40) ∧
    (onNext (run { cpu with a := 0x40 } [0xC9, 0x41]) fun t => t.p.c == false && t.p.z == false && t.p.n == true) ∧
    (onNext (run { cpu with a := 0x00 } [0xC9, 0x80]) fun t => t.p.c == false && t.p.z == false && t.p.n == true) := by decide

/-- V-AL-15. -/
theorem test_cpx :
    (onNext (run { cpu with x := 0xFF } [0xE0, 0x00]) fun t => t.p.c == true && t.p.z == false && t.p.n == true) := by decide

/-- V-AL-16. -/
theorem test_cpy :
    (onNext (run { cpu with y := 0x10 } [0xC0, 0x20]) fun t => t.p.c == false && t.p.z == false && t.p.n == true) := by decide

/-- V-AL-17, V-AL-18. -/
theorem test_bit :
    (onNext (run { cpu with a := 0x01, ram := [(0x0010, 0xC0)] } [0x24, 0x10]) fun t => t.p.z == true &&
      t.p.v == true && t.p.n == true && t.a == 0x01) ∧
    (onNext (run { cpu with a := 0xC0, ram := [(0x0300, 0x40)] } [0x2C, 0x00, 0x03]) fun t => t.p.z == false &&
      t.p.v == true && t.p.n == false) := by decide

/-- V-AL-19, V-AL-21. -/
theorem test_inc :
    (onNext (run { cpu with ram := [(0x0010, 0xFF)] } [0xE6, 0x10]) fun t => t.ram.read 0x010 == 0x00 &&
      t.p.z == true && t.p.n == false && t.cycles == 7 + 5) ∧
    (onNext (run { cpu with x := 0x01, ram := [(0x0300, 0x41)] } [0xFE, 0xFF, 0x02]) fun t =>
      t.ram.read 0x300 == 0x42 && t.cycles == 7 + 7) := by decide

/-- V-AL-20. -/
theorem test_dec :
    (onNext (run { cpu with ram := [] } [0xCE, 0x00, 0x03]) fun t => t.ram.read 0x300 == 0xFF && t.p.z == false &&
      t.p.n == true && t.cycles == 7 + 6) := by decide

/-- V-AL-22. -/
theorem test_inx :
    (onNext (run { cpu with x := 0xFF } [0xE8]) fun t => t.x == 0x00 && t.p.z == true && t.p.n == false) := by decide

/-- V-AL-23. -/
theorem test_iny :
    (onNext (run { cpu with y := 0x7F } [0xC8]) fun t => t.y == 0x80 && t.p.n == true) := by decide

/-- V-AL-24. -/
theorem test_dex :
    (onNext (run { cpu with x := 0x00 } [0xCA]) fun t => t.x == 0xFF && t.p.n == true) := by decide

/-- V-AL-25. -/
theorem test_dey :
    (onNext (run { cpu with y := 0x01 } [0x88]) fun t => t.y == 0x00 && t.p.z == true) := by decide

/-- V-AL-27. -/
theorem test_lsr :
    (onNext (run { cpu with a := 0x01 } [0x4A]) fun t => t.a == 0x00 && t.p.c == true && t.p.z == true &&
      t.p.n == false) := by decide

/-- V-AL-28. -/
theorem test_rol :
    (onNext (run { cpu with a := 0x80, p := { cpu.p with c := true } } [0x2A]) fun t => t.a == 0x01 &&
      t.p.c == true && t.p.z == false && t.p.n == false) := by decide

/-- V-AL-29, V-AL-30. -/
theorem test_ror :
    (onNext (run { cpu with a := 0x01, p := { cpu.p with c := true } } [0x6A]) fun t => t.a == 0x80 &&
      t.p.c == true && t.p.n == true) ∧
    (onNext (run { cpu with x := 0x02, p := { cpu.p with c := false }, ram := [(0x0012, 0x01)] } [0x76,
      0x10]) fun t => t.ram.read 0x012 == 0x00 && t.p.c == true && t.p.z == true && t.cycles == 7 + 6) := by decide

/-- V-CT-01, V-CT-02, V-CT-03, V-CT-04, V-CT-05, V-CT-06, V-CT-07. -/
theorem test_bpl :
    (onNext (run cpu [0x10, 0xFE]) fun t => t.pc == 0x8000 && t.cycles == 7 + 3) ∧
    (onNext (run { cpu with pc := 0x80F0 } [0x10, 0x10]) fun t => t.pc == 0x8102 && t.cycles == 7 + 4) ∧
    (onNext (run { cpu with pc := 0x80F0 } [0x10, 0x0C]) fun t => t.pc == 0x80FE && t.cycles == 7 + 3) ∧
    (onNext (run { cpu with pc := 0x80F0 } [0x10, 0x0E]) fun t => t.pc == 0x8100 && t.cycles == 7 + 4) ∧
    (onNext (run cpu [0x10, 0x7F]) fun t => t.pc == 0x8081 && t.cycles == 7 + 3) ∧
    (onNext (run cpu [0x10, 0x80]) fun t => t.pc == 0x7F82 && t.cycles == 7 + 4) ∧
    (onNext (run cpu [0x10, 0x00]) fun t => t.pc == 0x8002 && t.cycles == 7 + 3) := by decide

/-- V-CT-08. -/
theorem test_bmi :
    (onNext (run { cpu with pc := 0x80F0, p := { cpu.p with n := true } } [0x30, 0x20]) fun t => t.pc == 0x8112 &&
      t.cycles == 7 + 4) := by decide

/-- V-CT-09. -/
theorem test_bvc :
    (onNext (run { cpu with p := { cpu.p with v := true } } [0x50, 0x10]) fun t => t.pc == 0x8002 &&
      t.cycles == 7 + 2) := by decide

/-- V-CT-10. -/
theorem test_bvs :
    (onNext (run { cpu with p := { cpu.p with v := true } } [0x70, 0x10]) fun t => t.pc == 0x8012 &&
      t.cycles == 7 + 3) := by decide

/-- V-CT-11. -/
theorem test_bcc :
    (onNext (run { cpu with pc := 0x8100, p := { cpu.p with c := false } } [0x90, 0x80]) fun t => t.pc == 0x8082 &&
      t.cycles == 7 + 4) := by decide

/-- V-CT-12. -/
theorem test_bcs :
    (onNext (run { cpu with p := { cpu.p with c := true } } [0xB0, 0x00]) fun t => t.pc == 0x8002 &&
      t.cycles == 7 + 3) := by decide

/-- V-CT-13, V-CT-32. -/
theorem test_bne :
    (onNext (run { cpu with pc := 0x8010, p := { cpu.p with z := false } } [0xD0, 0xF8]) fun t => t.pc == 0x800A &&
      t.cycles == 7 + 3) ∧
    (onNext (run { cpu with pc := 0x0000 } [0xD0, 0xFC]) fun t => t.pc == 0xFFFE && t.cycles == 7 + 4) := by decide

/-- V-CT-14. -/
theorem test_beq :
    (onNext (run { cpu with p := { cpu.p with z := false } } [0xF0, 0x05]) fun t => t.pc == 0x8002 &&
      t.cycles == 7 + 2) := by decide

/-- V-CT-17. -/
theorem test_jsr :
    (onNext (run cpu [0x20, 0x00, 0x90]) fun t => t.pc == 0x9000 && t.sp == 0xFB && t.ram.read 0x1FD == 0x80 &&
      t.ram.read 0x1FC == 0x02 && t.cycles == 7 + 6) := by decide

/-- V-CT-18. -/
theorem test_rts :
    (onNext (run { cpu with sp := 0xFB, ram := [(0x01FC, 0x02), (0x01FD, 0x80)] } [0x60]) fun t => t.pc == 0x8003 &&
      t.sp == 0xFD && t.cycles == 7 + 6) := by decide

/-- V-CT-19, V-CT-20. -/
theorem test_brk :
    (onNext (run cpu [0x00]) fun t => t.pc == 0x9000 && t.sp == 0xFA && t.ram.read 0x1FD == 0x80 &&
      t.ram.read 0x1FC == 0x02 && t.ram.read 0x1FB == 0x34 && t.p == Status.unpack 0x24 && t.cycles == 7 + 7) ∧
    (onNext (run { cpu with p := Status.unpack 0x00 } [0x00]) fun t => t.ram.read 0x1FB == 0x30 &&
      t.p == Status.unpack 0x24) := by decide

/-- V-CT-21, V-CT-22. -/
theorem test_rti :
    (onNext (run { cpu with sp := 0xFA, ram := [(0x01FB, 0x34), (0x01FC, 0x02), (0x01FD, 0x80)] } [0x40]) fun t =>
      t.p == Status.unpack 0x24 && t.pc == 0x8002 && t.sp == 0xFD && t.cycles == 7 + 6) ∧
    (onNext (run { cpu with sp := 0xFA, ram := [(0x01FB, 0xDB), (0x01FD, 0xC0)] } [0x40]) fun t =>
      t.p == Status.unpack 0xEB && t.pc == 0xC000) := by decide

/-- V-CT-23. -/
theorem test_clc :
    (onNext (run { cpu with p := { cpu.p with c := true } } [0x18]) fun t => t.p.c == false) := by decide

/-- V-CT-24. -/
theorem test_sec :
    (onNext (run cpu [0x38]) fun t => t.p.c == true) := by decide

/-- V-CT-25. -/
theorem test_cli :
    (onNext (run cpu [0x58]) fun t => t.p == Status.unpack 0x20) := by decide

/-- V-CT-26. -/
theorem test_sei :
    (onNext (run { cpu with p := { cpu.p with i := false } } [0x78]) fun t => t.p == Status.unpack 0x24) := by decide

/-- V-CT-27. -/
theorem test_cld :
    (onNext (run { cpu with p := { cpu.p with d := true } } [0xD8]) fun t => t.p == Status.unpack 0x24) := by decide

/-- V-CT-28. -/
theorem test_sed :
    (onNext (run cpu [0xF8]) fun t => t.p == Status.unpack 0x2C) := by decide

/-- V-CT-29. -/
theorem test_clv :
    (onNext (run { cpu with p := { cpu.p with v := true } } [0xB8]) fun t => t.p == Status.unpack 0x24) := by decide

/-- V-CT-30, V-UD-19, V-UD-20, V-UD-21, V-UD-22. -/
theorem test_nop :
    (onNext (run cpu [0xEA]) fun t => t.pc == 0x8001 && t.p == Status.unpack 0x24 && t.cycles == 7 + 2) ∧
    (onNext (run cpu [0x04, 0x10]) fun t => t.pc == 0x8002 && t.p == Status.unpack 0x24 && t.cycles == 7 + 3) ∧
    (onNext (run { cpu with x := 0x01 } [0x1C, 0xFF, 0x02]) fun t => t.pc == 0x8003 && t.cycles == 7 + 5) ∧
    (onNext (run cpu [0x80, 0x55]) fun t => t.pc == 0x8002 && t.cycles == 7 + 2) ∧
    (onNext (run cpu [0x1A]) fun t => t.pc == 0x8001 && t.cycles == 7 + 2) := by decide

/-- V-UD-01. -/
theorem test_slo :
    (onNext (run { cpu with a := 0x01, ram := [(0x0010, 0x81)] } [0x07, 0x10]) fun t => t.ram.read 0x010 == 0x02 &&
      t.a == 0x03 && t.p.c == true && t.p.n == false && t.cycles == 7 + 5) := by decide

/-- V-UD-02. -/
theorem test_rla :
    (onNext (run { cpu with a := 0xFF, p := { cpu.p with c := true }, ram := [(0x0010, 0x80)] } [0x27,
      0x10]) fun t => t.ram.read 0x010 == 0x01 && t.a == 0x01 && t.p.c == true && t.cycles == 7 + 5) := by decide

/-- V-UD-03. -/
theorem test_sre :
    (onNext (run { cpu with a := 0x01, ram := [(0x0010, 0x03)] } [0x47, 0x10]) fun t => t.ram.read 0x010 == 0x01 &&
      t.a == 0x00 && t.p.c == true && t.p.z == true) := by decide

/-- V-UD-04. -/
theorem test_rra :
    (onNext (run { cpu with a := 0x10, p := { cpu.p with c := false }, ram := [(0x0010, 0x03)] } [0x67,
      0x10]) fun t => t.ram.read 0x010 == 0x01 && t.a == 0x12 && t.p.c == false && t.p.v == false) := by decide

/-- V-UD-05, V-UD-06. -/
theorem test_sax :
    (onNext (run { cpu with a := 0xF0, x := 0x3C } [0x87, 0x10]) fun t => t.ram.read 0x010 == 0x30 &&
      t.p == Status.unpack 0x24 && t.cycles == 7 + 3) ∧
    (onNext (run { cpu with y := 0x01, a := 0xFF, x := 0x0F } [0x97, 0xFF]) fun t => t.ram.read 0x000 == 0x0F) := by decide

/-- V-UD-07, V-UD-08. -/
theorem test_lax :
    (onNext (run { cpu with ram := [(0x0010, 0x80)] } [0xA7, 0x10]) fun t => t.a == 0x80 && t.x == 0x80 &&
      t.p.n == true && t.p.z == false && t.cycles == 7 + 3) ∧
    (onNext (run { cpu with y := 0x01, ram := [(0x0300, 0x42)] } [0xBF, 0xFF, 0x02]) fun t => t.a == 0x42 &&
      t.x == 0x42 && t.cycles == 7 + 5) := by decide

/-- V-UD-09. -/
theorem test_dcp :
    (onNext (run { cpu with a := 0x40, ram := [(0x0010, 0x41)] } [0xC7, 0x10]) fun t => t.ram.read 0x010 == 0x40 &&
      t.p.c == true && t.p.z == true && t.p.n == false && t.cycles == 7 + 5) := by decide

/-- V-UD-10. -/
theorem test_isb :
    (onNext (run { cpu with a := 0x10, p := { cpu.p with c := true }, ram := [(0x0010, 0x0F)] } [0xE7,
      0x10]) fun t => t.ram.read 0x010 == 0x10 && t.a == 0x00 && t.p.c == true && t.p.v == false && t.p.n == false) := by decide

/-- V-UD-11, V-UD-12. -/
theorem test_anc :
    (onNext (run { cpu with a := 0xFF } [0x0B, 0x80]) fun t => t.a == 0x80 && t.p.c == true && t.p.n == true) ∧
    (onNext (run { cpu with a := 0xFF } [0x2B, 0x7F]) fun t => t.a == 0x7F && t.p.c == false && t.p.n == false) := by decide

/-- V-UD-13. -/
theorem test_alr :
    (onNext (run { cpu with a := 0xFF } [0x4B, 0x03]) fun t => t.a == 0x01 && t.p.c == true && t.p.z == false &&
      t.p.n == false) := by decide

/-- V-UD-14, V-UD-15. -/
theorem test_arr :
    (onNext (run { cpu with a := 0xFF, p := { cpu.p with c := true } } [0x6B, 0xFF]) fun t => t.a == 0xFF &&
      t.p.c == true && t.p.v == false && t.p.n == true) ∧
    (onNext (run { cpu with a := 0xFF, p := { cpu.p with c := false } } [0x6B, 0x40]) fun t => t.a == 0x20 &&
      t.p.c == false && t.p.v == true && t.p.z == false) := by decide

/-- V-UD-16, V-UD-17. -/
theorem test_axs :
    (onNext (run { cpu with a := 0xFF, x := 0x0F } [0xCB, 0x05]) fun t => t.x == 0x0A && t.a == 0xFF &&
      t.p.c == true && t.p.z == false && t.p.n == false) ∧
    (onNext (run { cpu with a := 0x00, x := 0x00 } [0xCB, 0x01]) fun t => t.x == 0xFF && t.p.c == false &&
      t.p.n == true) := by decide

/-- V-UD-18. -/
theorem test_las :
    (onNext (run { cpu with y := 0x00, ram := [(0x0300, 0xF0)] } [0xBB, 0x00, 0x03]) fun t => t.a == 0xF0 &&
      t.x == 0xF0 && t.sp == 0xF0 && t.p.n == true && t.cycles == 7 + 4) := by decide

/-- V-UD-24. -/
theorem test_jam :
    (jamsAt 0x8000 (run cpu [0x02]) fun _ => true) := by decide

/-- V-UD-25, V-US-01. -/
theorem test_xaa :
    refusalOf (run { cpu with params := { cpu.params with unstable := .refuse } } [0x8B,
      0xF3]) = some (.unstableOpcode 0x8B) ∧
    (onNext (run { cpu with a := 0xFF, x := 0x0F } [0x8B, 0xF3]) fun t => t.a == 0x03 && t.p.z == false &&
      t.p.n == false) := by decide

/-- V-UD-26, V-US-03, V-US-04, V-US-05. -/
theorem test_ahx :
    refusalOf (run { cpu with params := { cpu.params with unstable := .refuse } } [0x9F, 0x00,
      0x12]) = some (.unstableOpcode 0x9F) ∧
    (onNext (run { cpu with a := 0xFF, x := 0xFF, y := 0x10 } [0x9F, 0x00, 0x12]) fun t =>
      t.ram.read 0x210 == 0x13 && t.cycles == 7 + 5) ∧
    (onNext (run { cpu with a := 0x01, x := 0x01, y := 0x10 } [0x9F, 0xF8, 0x02]) fun t =>
      t.ram.read 0x108 == 0x01 && t.ram.read 0x308 == 0x00 && t.cycles == 7 + 5) ∧
    (onNext (run { cpu with y := 0x04, a := 0x07, x := 0x07, ram := [(0x0011, 0x03)] } [0x93, 0x10]) fun t =>
      t.ram.read 0x304 == 0x04) := by decide

/-- V-US-02. -/
theorem test_lxa :
    (onNext (run { cpu with a := 0x00 } [0xAB, 0x35]) fun t => t.a == 0x24 && t.x == 0x24 && t.p.z == false &&
      t.p.n == false) := by decide

/-- V-US-06. -/
theorem test_tas :
    (onNext (run { cpu with a := 0xF3, x := 0x3F, y := 0x00 } [0x9B, 0x00, 0x05]) fun t => t.sp == 0x33 &&
      t.ram.read 0x500 == 0x02) := by decide

/-- V-US-07. -/
theorem test_shy :
    (onNext (run { cpu with y := 0xFF, x := 0x05 } [0x9C, 0x00, 0x02]) fun t => t.ram.read 0x205 == 0x03) := by decide

/-- V-US-08. -/
theorem test_shx :
    (onNext (run { cpu with x := 0xFF, y := 0x01 } [0x9E, 0x00, 0x03]) fun t => t.ram.read 0x301 == 0x04) := by decide

/-! ## The spec's memory, PPU and interrupt vectors -/

/-- V-MM-01, V-MM-05: the mirrors of RAM, and PRG-RAM. -/
theorem test_ram_and_prgRam :
    (onOk ((busWrite 0x0801 0x5A cpu).andThen fun _ t => busRead 0x1801 t) fun v t => v == 0x5A && t.ram == [(1, 0x5A)]) ∧
    (onOk ((busWrite 0x6000 0x77 cpu).andThen fun _ t => busRead 0x6000 t) fun v t =>
      v == 0x77 && t.prgRam == [(0, 0x77)]) := by decide

/-- V-MM-03 and R503's STA to 0x5000: the fault keeps A, memory as it was, and PC past the instruction (R165). -/
theorem test_fault_keeps_state :
    (stopsAt 0x4018 (run { cpu with a := 0x5A } [0xAD, 0x18, 0x40]) fun t => t.pc == 0x8003 && t.a == 0x5A) ∧
    (stopsAt 0x5000 (run cpu [0x8D, 0x00, 0x50]) fun t => t.pc == 0x8003 && t.ram == cpu.ram) := by decide

/-- V-PR-21 and R503's OAM DMA from page 0x40, with 0xFE in OAMADDR: the fault on the 25th read keeps 24 bytes written (the
cursor at 0x16) and PC past STA; the 23 oracle reads are recorded, and no stall is added. -/
theorem test_dma_fault_keeps_bytes :
    stopsAt 0x4018 (run { cpu with a := 0x40, ppu := { cpu.ppu with oamAddr := 0xFE } } [0x8D, 0x14, 0x40]) (fun t =>
      t.ppu.oamAddr == 0x16 && t.pc == 0x8003 && t.stall == 0 && t.draws == 24 &&
        t.out.oracleReads.length == 23) = true := by rfl

/-- V-MM-08, V-MM-09: UxROM with four banks, bank k starting with the byte 0xB0 + k. -/
def ux : State := { cpu with cart := { cpu.cart with
  mapper := .uxrom, prgBanks := 4, prgRom := [(0, 0xB0), (0x4000, 0xB1), (0x8000, 0xB2), (0xC000, 0xB3)] } }

theorem test_uxrom :
    (onOk ((busWrite 0x8000 2 ux).andThen fun _ t => busRead 0x8000 t) fun v t => v == 0xB2 && t.bankSel == 2) ∧
    (onOk ((busWrite 0x8000 2 ux).andThen fun _ t => busRead 0xC000 t) fun v _ => v == 0xB3) ∧
    (onOk ((busWrite 0xFFFF 5 ux).andThen fun _ t => busRead 0x8000 t) fun v t => v == 0xB1 && t.bankSel == 1) := by decide

/-- V-PR-02, V-PR-03, V-PR-04: the two halves of PPUSCROLL and of PPUADDR. -/
theorem test_scroll_and_address :
    (onOk ((busWrite 0x2005 0x7D cpu).andThen fun _ t => busWrite 0x2005 0x5E t) fun _ t =>
      t.ppu.t == 0x616F && t.ppu.x == 5 && !t.ppu.w) ∧
    (onOk ((busWrite 0x2006 0x3F cpu).andThen fun _ t => busWrite 0x2006 0x10 t) fun _ t =>
      t.ppu.t == 0x3F10 && t.ppu.v == 0x3F10 && !t.ppu.w) ∧
    (onOk (busWrite 0x2006 0xFF { cpu with ppu := { cpu.ppu with t := 0x7FFF } }) fun _ t =>
      t.ppu.t == 0x3FFF && t.ppu.w) := by decide

/-- V-PR-09, V-PR-10: PPUSTATUS and OAMDATA reads. -/
theorem test_status_and_oam_reads :
    (onOk (busRead 0x2002 { cpu with ppu := { cpu.ppu with vblank := true, latch := 0x1F, w := true } }) fun v t =>
      v == 0x9F && !t.ppu.vblank && !t.ppu.w) ∧
    (onOk (busRead 0x2004 { cpu with ppu := { cpu.ppu with oamAddr := 2, oam := [(2, 0xFF)] } }) fun v t =>
      v == 0xE3 && t.ppu.oamAddr == 2) := by decide

/-- V-PR-07, V-PR-13 to V-PR-16: a PPUDATA write at each of these addresses. -/
def videoWrite (mode : Mirroring) (a : BitVec 15) (d : Byte) : Res Unit :=
  busWrite 0x2007 d { cpu with cart := { cpu.cart with mirroring := mode }, ppu := { cpu.ppu with v := a } }

theorem test_video_writes :
    (onOk (videoWrite .horizontal 0x3F05 0xFF) fun _ t => t.ppu.pal == [(5, 0x3F)]) ∧
    (onOk (videoWrite .horizontal 0x2405 0x99) fun _ t => t.ppu.ciram == [(0x005, 0x99)]) ∧
    (onOk (videoWrite .vertical 0x2805 0x98) fun _ t => t.ppu.ciram == [(0x005, 0x98)]) ∧
    (onOk (videoWrite .horizontal 0x2C05 0x97) fun _ t => t.ppu.ciram == [(0x405, 0x97)]) ∧
    (onOk (videoWrite .horizontal 0x3005 0x96) fun _ t => t.ppu.ciram == [(0x005, 0x96)]) := by decide

/-- V-PT-01: two ticks from the reset position; V-SC-02, V-SC-03, V-SC-05 to V-SC-13: the scroll helpers. -/
theorem test_two_ticks : (runDots 1 cpu).ppu.scanline = 241 ∧ (runDots 1 cpu).ppu.dot = 0 ∧
    (runDots 1 cpu).ppu.vblank = false ∧ (runDots 2 cpu).ppu.dot = 1 ∧ (runDots 2 cpu).ppu.vblank = true := by decide

theorem test_scroll_helpers :
    incX 0x001F = 0x0400 ∧ incX 0x041F = 0x0000 ∧ incY 0x7000 = 0x0020 ∧ incY 0x73A0 = 0x0800 ∧ incY 0x7BA0 = 0x0000 ∧
    incY 0x73C0 = 0x03E0 ∧ incY 0x73E0 = 0x0000 ∧ copyX 0x7BFF 0x0000 = 0x7BE0 ∧ copyX 0x0000 0x7FFF = 0x041F ∧
    copyY 0x0000 0x7FFF = 0x7BE0 ∧ attributeAddr 0x0C7F = 0x2FC7 ∧ attributeShift 0x0C7F = 6 := by decide

/-- V-SP-07 to V-SP-10: sprite pattern addresses and one pattern row. -/
theorem test_sprite_patterns :
    spriteAddr { cpu.ppu with ctrl := Ctrl.ofByte 0x20, oam := [(1, 3)] } 0 9 = 0x1031 ∧
    spriteAddr { cpu.ppu with ctrl := Ctrl.ofByte 0x20, oam := [(1, 3), (2, 0x80)] } 0 9 = 0x1026 ∧
    spriteAddr { cpu.ppu with ctrl := Ctrl.ofByte 0x08, oam := [(1, 5), (2, 0x80)] } 0 2 = 0x1055 ∧
    spritePattern { cpu.cart with chr := [(0x50, 0x80), (0x58, 1)] } { cpu.ppu with oam := [(1, 5), (2, 0x43)] } 0 0 =
      0xECCCCCCD := by decide

/-- V-PX-03 to V-PX-07: composition with sprite 0 in the winning slot. -/
theorem test_composition :
    composeColour 5 none = 0x05 ∧ composeColour 0 (some ({ SpriteSlot.reset with prio := true }, 9)) = 0x19 ∧
    composeColour 5 (some (SpriteSlot.reset, 9)) = 0x19 ∧
    composeColour 5 (some ({ SpriteSlot.reset with prio := true }, 9)) = 0x05 ∧
    spriteZeroHit 7 (some ({ SpriteSlot.reset with prio := true }, 0xE)) 0 = true ∧
    spriteZeroHit 0 (some (SpriteSlot.reset, 9)) 0 = false := by decide

/-- V-IN-01, V-IN-02, V-IN-03, V-IN-05: NMI entry, a masked IRQ, IRQ entry, a stall with an NMI pending. -/
theorem test_interrupts :
    (onNext (cpuStep { cpu with pc := 0x8123, nmiPending := true }) fun t =>
      t.pc == 0xA000 && t.sp == 0xFA && t.ram == [(0x1FB, 0x24), (0x1FC, 0x23), (0x1FD, 0x81)] && !t.nmiPending &&
        t.cycles == 14) ∧
    (onNext (cpuStep { cpu with pc := 0x0000, irqInputs := [true], ram := [(0, 0xEA)] }) fun t =>
      t.pc == 0x0001 && t.sp == 0xFD && t.cycles == 9) ∧
    (onNext (cpuStep { cpu with irqInputs := [true], p := Status.unpack 0xC3 }) fun t =>
      t.pc == 0x9000 && t.sp == 0xFA && t.p == Status.unpack 0xE7 && t.ram.read 0x1FB == 0xE3 && t.cycles == 14) ∧
    (onNext (cpuStep { cpu with stall := 2, nmiPending := true }) fun t =>
      t.stall == 1 && t.pc == 0x8000 && t.nmiPending && t.cycles == 8) := by decide

/-! ## Witnesses: for each obligation with hypotheses, a state and operands that meet them -/

/-- A console in RAM code, rendering off: pointers to 0x0300 and 0x0400 in the zero page. -/
def demo : State := { State.reset with
  a := 0x5A, x := 0x01, y := 0x02, pc := 0x0200, ram := [(0x10, 0x01), (0x11, 0x03), (0x12, 0x04)], prgRam := [(0, 0x77)] }

theorem demo_inv : demo.Inv :=
  ⟨by decide, by decide, ⟨by decide, by decide, by decide, by decide, by decide⟩, by decide,
    ⟨by decide, by decide, by decide, by decide, by decide, by decide, by decide, by decide, by decide⟩,
    by decide, by decide⟩

/-- A change of registers, flags, stall, NMI latch or IRQ input leaves the invariant of `demo` as it is. -/
theorem demo_inv_cpu (pc : Word) (p : Status) (stall : Nat) (nmi : Bool) (irq : List Bool) (u : UnstableOpcodes) :
    State.Inv { demo with
      pc := pc, p := p, stall := stall, nmiPending := nmi, irqInputs := irq
      params := { demo.params with unstable := u } } :=
  ⟨demo_inv.ram, demo_inv.prgRam, demo_inv.cart, demo_inv.bank, demo_inv.ppu, demo_inv.delay, demo_inv.countdown⟩

/-- `demo` with the UxROM cartridge of `ux`, its bank register at bank 2. -/
def demoUx : State := { demo with cart := ux.cart, bankSel := 2 }

theorem demoUx_inv : demoUx.Inv :=
  ⟨by decide, by decide, ⟨by decide, by decide, by decide, by decide, by decide⟩, by decide,
    demo_inv.ppu, by decide, by decide⟩

/-! ### Reset and construction -/

theorem witness_CpuAfterConstruction :
    ∃ t, construct CartValue.atReset PowerOn.atReset Params.atReset [] = .next t := next_of_onNext (by decide)

theorem witness_RestAfterConstruction :
    ∃ t, construct { CartValue.atReset with mapperId := 2, chrBanks := 1 } PowerOn.atReset Params.atReset [true] =
      .next t := next_of_onNext (by decide)

/-- Both clauses at the ends of R102's ranges: NROM of 1, 2 and 3 banks, UxROM of 1 and 0 banks, two CHR banks, mapper 1. -/
theorem witness_ConstructionAdmits :
    let c := CartValue.atReset
    (onNext (construct { c with prgBanks := 1 } PowerOn.atReset Params.atReset []) fun _ => true) ∧
    (onNext (construct { c with prgBanks := 2, chrBanks := 1 } PowerOn.atReset Params.atReset []) fun _ => true) ∧
    (onNext (construct { c with mapperId := 2, prgBanks := 1 } PowerOn.atReset Params.atReset []) fun _ => true) ∧
    refusalOf (construct { c with prgBanks := 3 } PowerOn.atReset Params.atReset []) = some .unsupportedCartridge ∧
    refusalOf (construct { c with mapperId := 2, prgBanks := 0 } PowerOn.atReset Params.atReset []) =
      some .unsupportedCartridge ∧
    refusalOf (construct { c with chrBanks := 2 } PowerOn.atReset Params.atReset []) = some .unsupportedCartridge ∧
    refusalOf (construct { c with mapperId := 1 } PowerOn.atReset Params.atReset []) = some .unsupportedCartridge := by
  decide

theorem witness_InvariantAfterConstruction :
    let c : CartValue := { CartValue.atReset with prgRom := [(0x3FFD, 0x80)], chr := [(0x1FFF, 1)], chrBanks := 1 }
    let o : PowerOn := { PowerOn.atReset with
      ram := [(2047, 1)], prgRam := [(8191, 1)], ciram := [(2047, 1)], oam := [(255, 1)], pal := [(31, 1)] }
    (∃ t, construct c o Params.atReset [] = .next t) ∧ c.prgRom.good (16384 * c.prgBanks) = true ∧
    c.chr.good (8192 * c.chrBanks) = true ∧ o.ram.good 2048 = true ∧ o.prgRam.good (8192 * max 1 c.prgRamUnits) = true ∧
    o.chrRam.good 8192 = true ∧ o.ciram.good 2048 = true ∧ o.oam.good 256 = true ∧ o.pal.good 32 = true ∧
    (∀ cell ∈ o.pal, cell.1 ≠ 16 ∧ cell.1 ≠ 20 ∧ cell.1 ≠ 24 ∧ cell.1 ≠ 28) ∧ 1 ≤ Params.atReset.nmiDelayDots :=
  ⟨next_of_onNext (by decide), by decide⟩

theorem witness_StepKeepsInvariant : demo.Inv ∧ ∃ t, step { demo with pc := 0x0010 } = .next t :=
  ⟨demo_inv, next_of_onNext (by decide)⟩

/-! ### Decoding -/

theorem witness_DecodeOfEncode : Instr.wellFormed (.bne (-128)) = true ∧ Instr.wellFormed (.bne 127) = true := by decide

theorem witness_EncodeOfDecode : decode [0xD0, 0x80, 0xFF] = .ok (.bne (-128), [0xFF]) := by decide

/-! ### The step -/

/-- LDA $1234,X at 0x0200, interrupts masked. -/
def demoLda : State := { demo with ram := [(0x200, 0xBD), (0x201, 0x34), (0x202, 0x12)], irqInputs := [true] }

theorem witness_StepRunsDecodedInstruction :
    RunsInstruction demoLda ∧ Instr.wellFormed (.ldaAbsX 0x1234) = true ∧
    ∀ k b, (encode (.ldaAbsX 0x1234))[k]? = some b → peek demoLda (demoLda.pc + BitVec.ofNat 16 k) = some b := by
  refine ⟨⟨rfl, rfl, .inr rfl⟩, rfl, fun k b h => ?_⟩
  match k with
  | 0 => exact h ▸ (by decide : peek demoLda _ = (encode (.ldaAbsX 0x1234))[0]?)
  | 1 => exact h ▸ (by decide : peek demoLda _ = (encode (.ldaAbsX 0x1234))[1]?)
  | 2 => exact h ▸ (by decide : peek demoLda _ = (encode (.ldaAbsX 0x1234))[2]?)
  | k + 3 => exact nomatch h

theorem witness_StepFetchesOverTheBus :
    RunsInstruction demoLda ∧ decode [0xBD, 0x34, 0x12] = .ok (.ldaAbsX 0x1234, []) ∧
    ∃ t, busReadBytes 3 demoLda.pc demoLda.dropInput = .ok [0xBD, 0x34, 0x12] t :=
  ⟨⟨rfl, rfl, .inr rfl⟩, by decide, _, rfl⟩

theorem witness_StallStep : 0 < State.stall { demo with stall := 1, nmiPending := true } := by decide

theorem witness_NmiEntry :
    let s := { demo with nmiPending := true, irqInputs := [true] }
    s.Inv ∧ s.stall = 0 ∧ s.nmiPending = true :=
  ⟨demo_inv_cpu demo.pc demo.p 0 true [true] .formula, rfl, rfl⟩

theorem witness_IrqEntry :
    let s := { demo with p := Status.unpack 0, irqInputs := [true] }
    s.Inv ∧ s.stall = 0 ∧ s.nmiPending = false ∧ s.irqLine = true ∧ s.p.i = false :=
  ⟨demo_inv_cpu demo.pc (Status.unpack 0) 0 false [true] .formula, rfl, rfl, rfl, rfl⟩

theorem witness_CyclesPerStep : ∃ t, step demoLda = .next t := next_of_onNext (by decide)

/-- Each way to stop: a fetch from 0x4018, a JAM, and XAA under `refuse`. -/
theorem witness_StopsOnlyAsListed :
    State.Inv { demo with pc := 0x4018 } ∧ (stopsAt 0x4018 (step { demo with pc := 0x4018 }) fun _ => true) ∧
    State.Inv (demo.withFetchWord 8 0x02) ∧ (jamsAt 0x0200 (step (demo.withFetchWord 8 0x02)) fun _ => true) ∧
    refusalOf (step (State.withFetchWord { demo with params := { demo.params with unstable := .refuse } } 16 0x008B)) =
      some (.unstableOpcode 0x8B) := by
  refine ⟨demo_inv_cpu 0x4018 demo.p 0 false [] .formula, by decide, ?_, by decide, by decide⟩
  exact ⟨by decide, by decide, demo_inv.cart, by decide, demo_inv.ppu, by decide, by decide⟩

/-! ### The CPU bus -/

/-- Both clauses, at the last address of RAM's window. -/
theorem witness_RamMirrors : demo.ram.wf = true ∧ (0x1FFF#16).toNat ≤ 0x1FFF ∧ (0x07FF#16).toNat ≤ 0x1FFF ∧
    (0x07FF#16).toNat % 0x800 = (0x1FFF#16).toNat % 0x800 ∧ (0x0000#16).toNat % 0x800 ≠ (0x1FFF#16).toNat % 0x800 := by decide

theorem witness_UnimplementedRegionFaults :
    (0x4018 ≤ (0x4018#16).toNat ∧ (0x4018#16).toNat ≤ 0x5FFF) ∧
    (0x4018 ≤ (0x5FFF#16).toNat ∧ (0x5FFF#16).toNat ≤ 0x5FFF) := by decide

theorem witness_PrgRamWindow : demo.prgRam.wf = true ∧ 0x6000 ≤ (0x6000#16).toNat ∧ (0x6000#16).toNat ≤ 0x7FFF ∧
    0x6000 ≤ (0x7FFF#16).toNat ∧ (0x7FFF#16).toNat ≤ 0x7FFF ∧ 0x7FFF#16 ≠ 0x6000#16 := by decide

/-- NROM at 0x8000; UxROM on both sides of 0xC000. -/
theorem witness_MapperWindow :
    (demo.Inv ∧ demo.cart.mapper = .nrom ∧ 0x8000 ≤ (0x8000#16).toNat) ∧
    (demoUx.Inv ∧ demoUx.cart.mapper = .uxrom ∧ 0x8000 ≤ (0xBFFF#16).toNat ∧ (0xBFFF#16).toNat < 0xC000 ∧
      0xC000 ≤ (0xC000#16).toNat) :=
  ⟨⟨demo_inv, by decide⟩, demoUx_inv, by decide⟩

/-- The four clauses: 0x4000, 0x4014, 0x4016 and 0x4017. -/
theorem witness_ApuAndControllerAccesses :
    (0x4000 ≤ (0x4000#16).toNat ∧ (0x4000#16).toNat ≠ 0x4014 ∧ (0x4000#16).toNat ≠ 0x4016) ∧
    (0x4000 ≤ (0x4014#16).toNat ∧ (0x4014#16).toNat ≤ 0x4017) ∧ (0x4016#16).toNat ≤ 0x4017 ∧
    ((0x4017#16).toNat ≤ 0x4017 ∧ (0x4017#16).toNat ≠ 0x4014 ∧ (0x4017#16).toNat ≠ 0x4016) := by decide

/-- Every byte of page 0x1F (RAM), page 0x60 (PRG-RAM) and page 0xFF (PRG-ROM) is plain memory. -/
theorem witness_OamDmaCopies : demo.Inv ∧ ∀ page ∈ [0x1F#8, 0x60#8, 0xFF#8], ∀ i, i < 256 →
    (peek demo (BitVec.ofNat 16 (256 * page.toNat + i))).isSome = true :=
  ⟨demo_inv, by decide +kernel⟩

/-! ### The PPU registers -/

theorem witness_PpuStatusRead : isPpuReg 0x2002 2 = true := by decide

theorem witness_PpuCtrlAndMaskWrites : isPpuReg 0x3FF8 0 = true ∧ isPpuReg 0x2001 1 = true := by decide

theorem witness_OamAndOtherRegisters : isPpuReg 0x2003 3 = true ∧ isPpuReg 0x2004 4 = true ∧ isPpuReg 0x2000 0 = true ∧
    isPpuReg 0x2002 2 = true := by decide

theorem witness_ScrollAndAddressWrites : isPpuReg 0x2005 5 = true ∧ isPpuReg 0x2006 6 = true ∧ demo.ppu.w = false ∧
    Ppu.w { demo.ppu with w := true } = true := by decide

/-- Both clauses: the last address below the palette and the first of it. -/
theorem witness_PpuDataRead : isPpuReg 0x2007 7 = true ∧ (0x3EFF#15).toNat % 0x4000 < 0x3F00 ∧
    0x3F00 ≤ (0x3F00#15).toNat % 0x4000 ∧ (0x7EFF#15).toNat % 0x4000 < 0x3F00 := by decide

/-- The three clauses at the ends of their ranges. -/
theorem witness_PpuDataWrite : isPpuReg 0x3FFF 7 = true ∧ (0x1FFF#15).toNat % 0x4000 < 0x2000 ∧
    (0x2000 ≤ (0x2000#15).toNat % 0x4000 ∧ (0x3EFF#15).toNat % 0x4000 < 0x3F00) ∧
    0x3F00 ≤ (0x3F00#15).toNat % 0x4000 := by decide

theorem witness_VideoAddressAliases : 0x3FF < 0x400 ∧ (0x3000 ≤ 0x3000 ∧ 0x3EFF < 0x3F00) ∧
    (0x3F00 ≤ 0x3F10 ∧ 0x3FFF < 0x4000) ∧ palIndex 0x3F10 = palIndex 0x3F00 ∧ palIndex 0x3F11 ≠ palIndex 0x3F01 := by decide

/-! ### The dot clock -/

/-- `demo` with its PPU at a line and dot, rendering on or off, of an odd or an even frame. -/
def demoAt (line dot : Nat) (render odd : Bool) : State := { demo with
  ppu := { demo.ppu with scanline := line, dot := dot, odd := odd, mask := { demo.ppu.mask with bg := render } } }

/-- The last dot of a frame, long and short; a dot inside a line; the last dot of a line; the first dot of a frame. -/
theorem witness_DotClock :
    (tick (demoAt 261 340 false true)).ppu.standsAt 0 0 ∧ (tick (demoAt 261 339 true true)).ppu.standsAt 0 0 ∧
    (tick (demoAt 261 339 true false)).ppu.standsAt 261 340 ∧ (tick (demoAt 5 340 true true)).ppu.standsAt 6 0 ∧
    (demoAt 0 0 true true).ppu.standsAt 0 0 := by unfold Ppu.standsAt; decide

theorem witness_VblankFlag :
    (tick (demoAt 241 0 true false)).ppu.standsAt 241 1 ∧ (tick (demoAt 261 0 true false)).ppu.standsAt 261 1 ∧
    (tick (demoAt 240 340 true false)).ppu.standsAt 241 0 := by unfold Ppu.standsAt; decide

/-- Both clauses: NMI enabled and disabled. -/
def demoNmi (on : Bool) : State := { demo with
  ppu := { demo.ppu with scanline := 241, dot := 0, ctrl := { demo.ppu.ctrl with nmiOutput := on } } }

theorem witness_VblankNmi (on : Bool) :
    let s := demoNmi on
    s.Inv ∧ s.ppu.standsAt 241 0 ∧ s.ppu.vblank = false ∧ s.ppu.nmiDelay = 0 ∧ s.nmiPending = false ∧
      s.params.nmiDelayDots ≤ 6820 ∧ s.ppu.ctrl.nmiOutput = on := by
  have r := demo_inv.ppu
  refine ⟨⟨demo_inv.ram, demo_inv.prgRam, demo_inv.cart, demo_inv.bank, ?_, demo_inv.delay, Nat.zero_le _⟩,
    ⟨rfl, rfl⟩, rfl, rfl, rfl, (by decide : 15 ≤ 6820), rfl⟩
  exact ⟨r.oam, r.pal, r.palAlias, r.ciram, Nat.zero_le _, (by decide : 241 ≤ 261), r.attr, r.sprCount,
    by cases on <;> rfl⟩

/-- Each clause of IncX and IncY. -/
theorem witness_ScrollUpdates :
    (0x001F#15).toNat % 32 = 31 ∧ (0x0000#15).toNat % 32 ≠ 31 ∧ (0x0000#15).toNat / 4096 ≠ 7 ∧ (0x73A0#15).toNat / 4096 = 7 ∧
    (0x73A0#15).toNat / 32 % 32 = 29 ∧ (0x73E0#15).toNat / 32 % 32 = 31 ∧
    (0x73C0#15).toNat / 32 % 32 ≠ 29 ∧ (0x73C0#15).toNat / 32 % 32 ≠ 31 := by decide

/-- Nine sprites on line 50 and the others off it (V-SP-04): every slot is filled and the ninth overflows. -/
def nineSprites : Ppu := { demo.ppu with
  scanline := 50, oam := (List.range 64).map fun i => (4 * i, if i < 9 then 50#8 else 0xFF#8) }

theorem witness_SpriteEvaluation :
    let q := evaluateSprites Cart.atReset nineSprites
    q.sprCount = 8 ∧ q.sprOverflow = true ∧ q.sprites[7].index = 7 := by decide +kernel

theorem witness_PixelComposition :
    ∃ slot, sprPixel { demo.ppu with
      dot := 1, sprCount := 1, mask := { demo.ppu.mask with spr := true }
      sprites := Vector.replicate 8 { SpriteSlot.reset with pattern := 0x90000000 } } = some (slot, 9) :=
  ⟨_, rfl⟩

/-- A visible dot and one that is not, rendering disabled. -/
theorem witness_FrameSinkPixels :
    (let q := (tick (demoAt 239 255 false false)).ppu; q.scanline < 240 ∧ 1 ≤ q.dot ∧ q.dot ≤ 256) ∧
    (let q := (tick (demoAt 239 256 false false)).ppu; ¬ (q.scanline < 240 ∧ 1 ≤ q.dot ∧ q.dot ≤ 256)) ∧
    (demoAt 239 255 false false).ppu.mask.bg = false ∧ (demoAt 239 255 false false).ppu.mask.spr = false := by decide

/-- Fetch dots of the first and of the pre-render line, one of each clause and the ends of both ranges. -/
theorem witness_TileFetches :
    (∀ d ∈ [0, 2, 4, 6, 7, 255, 320, 335], let p := (demoAt 0 d true false).ppu.countdown.advance;
      (p.mask.bg = true ∨ p.mask.spr = true) ∧ p.scanline < 240 ∧
        (1 ≤ p.dot ∧ p.dot ≤ 256 ∨ 321 ≤ p.dot ∧ p.dot ≤ 336)) ∧
    (demoAt 261 320 true false).ppu.countdown.advance.scanline = 261 ∧
    [1, 3, 5, 7, 8].map (· % 8) = [1, 3, 5, 7, 0] := by decide

/-! ### Whole-machine rules -/

theorem witness_RomNeverChanges :
    (∃ t, step demoLda = .next t) ∧ Cart.chrBanks { demo.cart with chrBanks := 1 } ≠ 0 :=
  ⟨next_of_onNext (by decide), by decide⟩

theorem witness_EventStreamsGrow : ∃ t, step (State.withFetchWord demo 24 0x40168D) = .next t :=
  next_of_onNext (by decide)

/-- NOP writes no register and no flag; LDA does not write X; STA writes neither Z nor N; CPX writes no bank register. -/
theorem witness_RegisterWriters :
    (∃ t, exec .nop demo = .next t) ∧ named .nop [.mLDA, .mTAX, .mTXS, .mADC, .mSEI, .mSED] = false ∧
    (∃ t, exec (.ldaZp 0x10) demo = .next t) ∧ named (.ldaZp 0x10) [.mLDX, .mTAX, .mTSX] = false ∧
    (∃ t, exec (.staZp 0x10) demo = .next t) ∧ named (.staZp 0x10) memoryWriters = true ∧
    named (.staZp 0x10) [.mINC, .mDEC, .mASL] = false ∧ named (.cpxImm 1) memoryWriters = false :=
  ⟨next_of_onNext (by decide), by decide, next_of_onNext (by decide), by decide, next_of_onNext (by decide), by decide⟩

theorem witness_NonStoringKeepsMemory :
    named (.ldaAbs 0x2007) stackWriters = false ∧ named (.ldaAbs 0x2007) memoryWriters = false ∧
    (∃ t, exec (.ldaAbs 0x2007) demo = .next t) ∧ named .aslAcc stackWriters = false ∧ (∃ t, exec .aslAcc demo = .next t) :=
  ⟨by decide, by decide, next_of_onNext (by decide), by decide, next_of_onNext (by decide)⟩

/-- A store below and one in the PRG-ROM window, an unstable store, and the instructions that push. -/
theorem witness_StoresChangeOnlyTheirByte :
    demo.Inv ∧ (∃ t, exec (.staAbs 0x7FFF) demo = .next t) ∧ (operandAddr (.staAbs 0x7FFF) demo).toNat < 0x8000 ∧
    (∃ t, exec (.staAbs 0x8000) demo = .next t) ∧ 0x8000 ≤ (operandAddr (.staAbs 0x8000) demo).toNat ∧
    (∃ t, exec (.shxAbsY 0x02FF) demo = .next t) ∧ (∃ t, exec .pha demo = .next t) ∧
    (∃ t, exec (.jsrAbs 0x1234) demo = .next t) ∧ (∃ t, exec .brk demo = .next t) ∧
    sameByte (operandAddr (.staAbs 0x7FFF) demo) 0x7FFE = false ∧ sameByte (wordOf 1 demo.sp) 0x01FE = false :=
  ⟨demo_inv, next_of_onNext (by decide), by decide, next_of_onNext (by decide), by decide, next_of_onNext (by decide),
    next_of_onNext (by decide), next_of_onNext (by decide), next_of_onNext (by decide), by decide⟩

/-! ### Instructions -/

theorem witness_LoadInstructions : demo.Inv ∧
    ∀ i ∈ ldaForms 0x10 0x1FFF ++ ldxForms 0x10 0x2002 ++ ldyForms 0x10 0x4016, operandReadable i demo = true :=
  ⟨demo_inv, by decide⟩

theorem witness_StoreInstructions : demo.Inv ∧
    (∀ i ∈ staForms 0x10 0x4017, i ≠ .staAbsX 0x4017 → i ≠ .staAbsY 0x4017 → storable (operandAddr i demo) demo.a = true) ∧
    (∀ i ∈ staForms 0x10 0x6000, storable (operandAddr i demo) demo.a = true) ∧
    (∀ i ∈ stxForms 0x10 0x4014, storable (operandAddr i demo) demo.x = true) ∧
    (∀ i ∈ styForms 0x10 0x2007, storable (operandAddr i demo) demo.y = true) ∧
    (∀ i ∈ saxForms 0x10 0xFFFF, storable (operandAddr i demo) (demo.a &&& demo.x) = true) :=
  ⟨demo_inv, by decide⟩

theorem witness_AddAndSubtract : demo.Inv ∧
    ∀ i ∈ adcForms 0x10 0x0300 ++ sbcForms 0x10 0xFFFF, operandReadable i demo = true := ⟨demo_inv, by decide⟩

theorem witness_LogicInstructions : demo.Inv ∧
    ∀ i ∈ andForms 0x10 0x0300 ++ oraForms 0x10 0x4015 ++ eorForms 0x10 0xFFFF, operandReadable i demo = true :=
  ⟨demo_inv, by decide⟩

theorem witness_CompareAndBitTest : demo.Inv ∧
    ∀ i ∈ cmpForms 0x10 0x0300 ++ cpxForms 0x10 0x2004 ++ cpyForms 0x10 0x4017 ++ bitForms 0x10 0x2002,
      operandReadable i demo = true := ⟨demo_inv, by decide⟩

/-- An address other than 0x4014 outside the unimplemented region can be stored to, whatever the byte. -/
theorem storable_of_ne {a : Word} (h : unimplemented a = false) (n : (a == 0x4014) = false) (v : Byte) :
    storable a v = true := by
  unfold storable
  rw [h, n]
  rfl

theorem witness_CountsAndShifts : demo.Inv ∧
    ∀ i ∈ incForms 0x10 0x02FF ++ decForms 0x10 0x02FF ++ aslForms 0x10 0x02FF ++ lsrForms 0x10 0x02FF ++
        rolForms 0x10 0x02FF ++ rorForms 0x10 0x02FF,
      operandReadable i demo = true ∧ ∀ r : Byte, storable (operandAddr i demo) r = true :=
  ⟨demo_inv, fun i h =>
    have all : ∀ i ∈ incForms 0x10 0x02FF ++ decForms 0x10 0x02FF ++ aslForms 0x10 0x02FF ++ lsrForms 0x10 0x02FF ++
        rolForms 0x10 0x02FF ++ rorForms 0x10 0x02FF,
        operandReadable i demo = true ∧ unimplemented (operandAddr i demo) = false ∧
          (operandAddr i demo == 0x4014) = false := by decide
    ⟨(all i h).1, storable_of_ne (all i h).2.1 (all i h).2.2⟩⟩

theorem witness_JumpsAndCalls : demo.Inv ∧ unimplemented 0x02FF = false ∧
    unimplemented (BitVec.ofNat 16 ((0x02FF#16).toNat / 256 * 256 + ((0x02FF#16).toNat + 1) % 256)) = false :=
  ⟨demo_inv, by decide⟩

theorem witness_BreakAndReturn : demo.Inv := demo_inv

theorem witness_UndocumentedReadModifyWrite : demo.Inv ∧
    ∀ i ∈ sloForms 0x10 0x02FF ++ rlaForms 0x10 0x02FF ++ sreForms 0x10 0x02FF ++ rraForms 0x10 0x02FF ++
        dcpForms 0x10 0x02FF ++ isbForms 0x10 0x02FF,
      operandReadable i demo = true ∧ ∀ r : Byte, storable (operandAddr i demo) r = true :=
  ⟨demo_inv, fun i h =>
    have all : ∀ i ∈ sloForms 0x10 0x02FF ++ rlaForms 0x10 0x02FF ++ sreForms 0x10 0x02FF ++ rraForms 0x10 0x02FF ++
        dcpForms 0x10 0x02FF ++ isbForms 0x10 0x02FF,
        operandReadable i demo = true ∧ unimplemented (operandAddr i demo) = false ∧
          (operandAddr i demo == 0x4014) = false := by decide
    ⟨(all i h).1, storable_of_ne (all i h).2.1 (all i h).2.2⟩⟩

theorem witness_UndocumentedReads : demo.Inv ∧
    ∀ i ∈ laxForms 0x10 0x02FF ++ [.ancImm0B 0x10, .ancImm2B 0x10, .alrImm 0x10, .arrImm 0x10, .axsImm 0x10,
        .lasAbsY 0x02FF] ++ readingNopForms 0x10 0x02FF,
      operandReadable i demo = true := ⟨demo_inv, by decide⟩

/-- Both clauses: `refuse`; and `formula`, with every store landing in RAM. -/
theorem witness_UnstableOpcodes :
    (let s := { demo with params := { demo.params with unstable := .refuse } }; s.Inv ∧ s.params.unstable = .refuse) ∧
    demo.Inv ∧ demo.params.unstable = .formula ∧
    (∀ i ∈ [Instr.xaaImm 0x10, .lxaImm 0x10], operandReadable i demo = true) ∧
    (∀ i ∈ [Instr.ahxIndY 0x10, .ahxAbsY 0x02FF, .tasAbsY 0x02FF, .shyAbsX 0x02FF, .shxAbsY 0x02FF],
      ∀ v ∈ [demo.a &&& demo.x &&& highPlusOne i demo, demo.y &&& highPlusOne i demo, demo.x &&& highPlusOne i demo],
        storable (highStoreAddr i demo v) v = true) :=
  ⟨⟨demo_inv_cpu demo.pc demo.p 0 false [] .refuse, rfl⟩, demo_inv, rfl, by decide, by decide⟩

/-- Each clause: a read, a store, a pointer and an opcode byte at an end of the region; pages 0x40, 0x41
and 0x5F for DMA. -/
theorem witness_UnimplementedOperandFaults :
    operandReadable (.ldaAbs 0x4018) demo = false ∧ operandReadable (.incAbs 0x5FFF) demo = false ∧
    unimplemented (operandAddr (.staAbs 0x5FFF) demo) = true ∧ unimplemented 0x4018 = true ∧
    RunsInstruction { demo with pc := 0x5FFF } ∧
    (0x40#8).toNat = 0x40 ∧ 0x41 ≤ (0x41#8).toNat ∧ (0x5F#8).toNat ≤ 0x5F :=
  ⟨by decide, by decide, by decide, by decide, ⟨rfl, rfl, .inr rfl⟩, by decide⟩

end Sys2Proof.Machine
end

section
/-! Proofs of the statements of scope: construction, what every step keeps, what a store changes, the opcode map's counts
and the stack instructions. The laws they rest on come first. -/

namespace Sys2Proof.Machine

/-! ## The opcode map -/

/-- Every instruction has a row of the opcode map: its size is the length of the encoding, but 2 for BRK, whose second
byte is skipped (R141), and its page-cross cost is at most 1 (R159). -/
theorem descriptor?_size_pageCross (i : Instr) : ∃ d, i.descriptor? = some d ∧
    d.size = (if i = .brk then 2 else (encode i).length) ∧ d.pageCross ≤ 1 := by
  cases i <;> simp [encode]

/-- A count over the map is the sum of the counts over its rows. -/
theorem opcodeMap_countP {p : Descriptor → Bool} {n : Nat} (h : (opcodeMap.map (List.countP p)).sum = n) :
    opcodeMap.flatten.countP p = n := by
  rw [List.countP_flatten, h]

/-! ## Flags and the stack in the statements' words -/

/-- P packed (R44). -/
theorem pack_eq_statusByte (p : Status) (brk : Bool) : p.pack brk = statusByte p brk := by
  obtain ⟨c, z, i, d, v, n⟩ := p
  revert c z i d v n brk
  decide

/-- P unpacked (R44). -/
theorem unpack_eq_statusOf (b : Byte) : Status.unpack b = statusOf b := rfl

/-- `SetZN` in integers (R18): bit 7 is set from 128 on. -/
theorem setZN_eq (s : State) (r : Byte) : s.setZN r = { s with p := s.p.zn r } := by
  have hz : (r == 0) = decide (r.toNat = 0) := by
    rw [Bool.eq_iff_iff]
    simp [BitVec.toNat_eq]
  have hn : r.getLsbD 7 = decide (128 ≤ r.toNat) :=
    (BitVec.msb_eq_getLsbD_last r).symm.trans (BitVec.msb_eq_decide r)
  rw [State.setZN, Status.zn, hz, hn]

/-- `Push` (R17). -/
theorem push_eq (s : State) (v : Byte) :
    s.push v = { s with ram := s.ram.write (stackIndex s.sp) v, sp := s.sp - 1 } := by
  rw [State.push, State.writeRam, ramIndex_stackAddr]
  rfl

/-- The byte `Pull` takes (R17). -/
theorem pulled_eq (s : State) : s.pulled = s.ram.read (stackIndex (s.sp + 1)) := by
  rw [State.pulled, ramIndex_stackAddr, stackIndex]

/-- An instruction with no operand completes by its handler, in its frame (R165). -/
theorem exec_of_implied {i : Instr} {n c : Nat} {f : State → State} {s : State} (he : exec i s = impliedInstr n c f s)
    (hf : afterFrame i s = s.advance n c) : exec i s = .next (f (afterFrame i s)) := by
  rw [he, hf, impliedInstr]

/-! ## Register operations -/

/-- An operation on the CPU's own registers: the memories, the cartridge, the PPU, the parameters and the event streams
are the same after it. -/
structure RegistersOnly (s t : State) : Prop where
  ram : t.ram = s.ram
  prgRam : t.prgRam = s.prgRam
  cart : t.cart = s.cart
  bankSel : t.bankSel = s.bankSel
  ppu : t.ppu = s.ppu
  params : t.params = s.params
  out : t.out = s.out

theorem RegistersOnly.keeps {s t : State} (h : RegistersOnly s t) : Keeps s t :=
  Keeps.core h.ram h.prgRam h.cart h.bankSel h.ppu h.params h.out

theorem advance_registersOnly (s : State) (n c : Nat) : RegistersOnly s (s.advance n c) :=
  ⟨rfl, rfl, rfl, rfl, rfl, rfl, rfl⟩

theorem addCycles_registersOnly (s : State) (c : Nat) : RegistersOnly s (s.addCycles c) :=
  ⟨rfl, rfl, rfl, rfl, rfl, rfl, rfl⟩

theorem dropInput_registersOnly (s : State) : RegistersOnly s s.dropInput := ⟨rfl, rfl, rfl, rfl, rfl, rfl, rfl⟩

theorem stallCycle_registersOnly (s : State) : RegistersOnly s s.stallCycle := ⟨rfl, rfl, rfl, rfl, rfl, rfl, rfl⟩

theorem clearNmi_registersOnly (s : State) : RegistersOnly s s.clearNmi := ⟨rfl, rfl, rfl, rfl, rfl, rfl, rfl⟩

theorem ReadOp.registersOnly {f : Byte → State → State} (h : ReadOp f) (v : Byte) (s : State) :
    RegistersOnly s (f v s) := by
  cases h <;> exact ⟨rfl, rfl, rfl, rfl, rfl, rfl, rfl⟩

theorem ModifyOp.registersOnly {f : Byte → State → Byte × State} (h : ModifyOp f) (v : Byte) (s : State) :
    RegistersOnly s (f v s).2 := by
  cases h <;> exact ⟨rfl, rfl, rfl, rfl, rfl, rfl, rfl⟩

theorem AfterOp.registersOnly {f : Byte → State → State} (h : AfterOp f) (v : Byte) (s : State) :
    RegistersOnly s (f v s) := by
  cases h <;> exact ⟨rfl, rfl, rfl, rfl, rfl, rfl, rfl⟩

theorem HighOp.registersOnly {f : Byte → State → Byte × State} (h : HighOp f) (v : Byte) (s : State) :
    RegistersOnly s (f v s).2 := by
  cases h <;> exact ⟨rfl, rfl, rfl, rfl, rfl, rfl, rfl⟩

/-- An instruction with no operand pushes one byte, or writes registers only. -/
theorem ImpliedOp.push_or_registersOnly {f : State → State} (h : ImpliedOp f) (s : State) :
    (∃ v, f s = s.push v) ∨ RegistersOnly s (f s) := by
  cases h
  case pha => exact .inl ⟨s.a, rfl⟩
  case php => exact .inl ⟨s.p.pack true, rfl⟩
  all_goals exact .inr ⟨rfl, rfl, rfl, rfl, rfl, rfl, rfl⟩

theorem ImpliedOp.keeps {f : State → State} (h : ImpliedOp f) (s : State) : Keeps s (f s) := by
  obtain ⟨v, hv⟩ | hr := h.push_or_registersOnly s
  · rw [hv]; exact Keeps.push s v
  · exact hr.keeps

/-! ## What one step keeps -/

theorem Keeps.advance (s : State) (n c : Nat) : Keeps s (s.advance n c) := (advance_registersOnly s n c).keeps

/-- All that two reads making a word, low byte first, can answer without a fault (R16). -/
theorem busReadPair_eq_ok {a b w : Word} {s t : State}
    (h : ((busRead a s).andThen fun lo t => (busRead b t).andThen fun hi u => .ok (wordOf hi lo) u) = .ok w t) :
    ∃ lo hi u, busRead a s = .ok lo u ∧ busRead b u = .ok hi t ∧ w = wordOf hi lo := by
  obtain ⟨lo, u, hlo, h⟩ := Res.andThen_eq_ok h
  obtain ⟨hi, v, hhi, h⟩ := Res.andThen_eq_ok h
  injection h with hw ht
  subst ht
  exact ⟨lo, hi, u, hlo, hhi, hw.symm⟩

theorem busRead16_eq_ok {a w : Word} {s t : State} (h : busRead16 a s = .ok w t) :
    ∃ lo hi u, busRead a s = .ok lo u ∧ busRead (a + 1) u = .ok hi t ∧ w = wordOf hi lo :=
  busReadPair_eq_ok h

theorem busReadPtrWrap_eq_ok {a w : Word} {s t : State} (h : busReadPtrWrap a s = .ok w t) :
    ∃ lo hi u, busRead a s = .ok lo u ∧ busRead (wordOf (highByte a) (lowByte a + 1)) u = .ok hi t ∧
      w = wordOf hi lo :=
  busReadPair_eq_ok h

theorem Keeps.read16 {a w : Word} {s t : State} (h : busRead16 a s = .ok w t) : Keeps s t := by
  obtain ⟨_, _, _, hlo, hhi, -⟩ := busRead16_eq_ok h
  exact (Keeps.read hlo).trans (Keeps.read hhi)

theorem Keeps.readPtrWrap {a w : Word} {s t : State} (h : busReadPtrWrap a s = .ok w t) : Keeps s t := by
  obtain ⟨_, _, _, hlo, hhi, -⟩ := busReadPtrWrap_eq_ok h
  exact (Keeps.read hlo).trans (Keeps.read hhi)

theorem Keeps.push16 (s : State) (w : Word) : Keeps s (s.push16 w) := (Keeps.push s _).trans (Keeps.push _ _)

/-- An unstable opcode that answers a next state answers its formula's (R332). -/
theorem unstableInstr_eq_next {op : Byte} {f : State → Outcome} {s t : State} (h : unstableInstr op f s = .next t) :
    f s = .next t := by
  unfold unstableInstr at h
  split at h
  · exact nomatch h
  · exact h

/-- Every frame keeps what its bus accesses and its handler keep. -/
theorem ExecForm.keeps {f : State → Outcome} (form : ExecForm f) {s t : State} (h : f s = .next t) : Keeps s t := by
  induction form with
  | implied n c _ op =>
    injection h with h
    subst h
    exact (Keeps.advance s n c).trans (op.keeps _)
  | imm n c b _ op =>
    injection h with h
    subst h
    exact (Keeps.advance s n c).trans (op.registersOnly b _).keeps
  | acc n c _ op =>
    injection h with h
    subst h
    exact (Keeps.advance s n c).trans ((op.registersOnly s.a _).keeps.trans (Keeps.core rfl rfl rfl rfl rfl rfl rfl))
  | read n c x m _ op =>
    obtain ⟨v, u, hr, rfl⟩ := readInstr_eq_next h
    exact (Keeps.advance s n _).trans ((Keeps.read hr).trans (op.registersOnly v u).keeps)
  | store n c m _ _ => exact (Keeps.advance s n c).trans (Keeps.write (storeInstr_eq_next h))
  | rmw n c m _ modify after =>
    obtain ⟨v, u, w, hr, hw, rfl⟩ := rmwInstr_eq_next h
    exact (Keeps.advance s n c).trans ((Keeps.read hr).trans ((modify.registersOnly v u).keeps.trans
      ((Keeps.write hw).trans (after.registersOnly _ w).keeps)))
  | high n c m _ op =>
    exact (Keeps.advance s n c).trans ((op.registersOnly _ _).keeps.trans (Keeps.write (Res.toOutcome_eq_next h)))
  | branch cond off =>
    dsimp only [branchInstr] at h
    split at h <;> injection h with h <;> subst h
    · exact (Keeps.advance s 2 2).trans ((Keeps.setPc _ _).trans (addCycles_registersOnly _ _).keeps)
    · exact Keeps.advance s 2 2
  | jmp addr =>
    injection h with h
    subst h
    exact (Keeps.advance s 3 3).trans (Keeps.setPc _ _)
  | jmpInd addr =>
    obtain ⟨target, u, hr, h⟩ := Res.andThen_eq_ok (Res.toOutcome_eq_next h)
    injection h with _ h
    subst h
    exact (Keeps.readPtrWrap hr).trans ((Keeps.advance u 3 5).trans (Keeps.setPc _ _))
  | jsr addr =>
    injection h with h
    subst h
    exact (Keeps.advance s 3 6).trans ((Keeps.push16 _ _).trans (Keeps.setPc _ _))
  | brk => exact (Keeps.advance s 2 7).trans (Keeps.enter (Res.toOutcome_eq_next h))
  | jam => exact nomatch h
  | unstable op _ _ ih => exact ih (unstableInstr_eq_next h)

theorem Keeps.exec {i : Instr} {s t : State} (h : exec i s = .next t) : Keeps s t := (exec_form i).keeps h

theorem fetchedInstr_eq_ok {op b1 b2 : Byte} {s t : State} {i : Instr} (h : fetchedInstr op b1 b2 s = .ok i t) :
    t = s := by
  obtain ⟨j, -, hj⟩ := fetchedInstr_ok op b1 b2 s
  rw [hj] at h
  injection h with _ h
  exact h.symm

theorem Keeps.fetched {op b1 b2 : Byte} {s t : State} {i : Instr} (h : fetchedInstr op b1 b2 s = .ok i t) :
    Keeps s t := by
  rw [fetchedInstr_eq_ok h]
  exact Keeps.refl s

theorem Keeps.operandByte {op b : Byte} {a : Word} {s t : State} (h : operandByte op a s = .ok b t) : Keeps s t := by
  obtain hr | ⟨-, -, rfl⟩ := operandByte_eq_ok h
  · exact Keeps.read hr
  · exact Keeps.refl _

theorem Keeps.fetch {i : Instr} {s t : State} (h : fetch s = .ok i t) : Keeps s t := by
  obtain ⟨op, u, hop, h⟩ := Res.andThen_eq_ok h
  refine (Keeps.read hop).trans ?_
  split at h
  · exact Keeps.fetched h
  obtain ⟨b1, v, hb1, h⟩ := Res.andThen_eq_ok h
  refine (Keeps.operandByte hb1).trans ?_
  split at h
  · exact Keeps.fetched h
  obtain ⟨b2, w, hb2, h⟩ := Res.andThen_eq_ok h
  exact (Keeps.read hb2).trans (Keeps.fetched h)

theorem Keeps.instrStep {s t : State} (h : instrStep s = .next t) : Keeps s t := by
  unfold Machine.instrStep at h
  split at h
  · rename_i i u hf
    exact (Keeps.fetch hf).trans (Keeps.exec h)
  · exact nomatch h

theorem Keeps.takeInterrupt {vector : Word} {s t : State} (h : takeInterrupt vector s = .ok () t) : Keeps s t := by
  obtain ⟨_, u, hu, h⟩ := Res.andThen_eq_ok h
  injection h with _ h
  subst h
  exact (Keeps.enter hu).trans (addCycles_registersOnly u 7).keeps

theorem Keeps.cpuStep {s t : State} (h : cpuStep s = .next t) : Keeps s t := by
  have input : Keeps s s.dropInput := (dropInput_registersOnly s).keeps
  unfold Machine.cpuStep at h
  split_ifs at h
  · injection h with h
    subst h
    exact input.trans (stallCycle_registersOnly _).keeps
  · exact input.trans ((clearNmi_registersOnly _).keeps.trans (Keeps.takeInterrupt (Res.toOutcome_eq_next h)))
  · exact input.trans (Keeps.takeInterrupt (Res.toOutcome_eq_next h))
  · exact input.trans (Keeps.instrStep h)

/-- Every console step keeps the invariant, the ROM, the parameters and the event streams so far. -/
theorem Keeps.step {s t : State} (h : step s = .next t) : Keeps s t := by
  obtain ⟨u, hu, rfl⟩ := consoleStep_eq_next h
  exact (Keeps.cpuStep hu).trans (Keeps.dots _ u)

/-! ## Construction -/

/-- The cartridges R102 admits. -/
theorem CartValue.mapper?_eq_some {c : CartValue} {m : Mapper} (h : c.mapper? = some m) :
    c.chrBanks ≤ 1 ∧ 1 ≤ c.prgBanks ∧ (m = .nrom → c.prgBanks ≤ 2) := by
  unfold CartValue.mapper? at h
  split_ifs at h with nrom uxrom <;> injection h with h <;> subst h
  · exact ⟨nrom.2.2, by omega, fun _ => by omega⟩
  · exact ⟨uxrom.2.2, uxrom.2.1, nofun⟩

/-- All a construction can answer with a next state: the reset state with PC read from 0xFFFC (R550). -/
theorem construct_eq_next {c : CartValue} {o : PowerOn} {params : Params} {irq : List Bool} {t : State}
    (h : construct c o params irq = .next t) : ∃ m w u, c.mapper? = some m ∧
      busRead16 0xFFFC (beforeVector (c.insert m o.chrRam) o params irq) = .ok w u ∧ t = u.setPc w := by
  unfold construct at h
  split at h
  · exact nomatch h
  · rename_i m hm
    obtain ⟨w, u, hr, h⟩ := Res.andThen_eq_ok (Res.toOutcome_eq_next h)
    injection h with _ h
    exact ⟨m, w, u, hm, hr, h.symm⟩

theorem CartValue.insert_admitted {c : CartValue} {m : Mapper} {chrRam : Memory} (hm : c.mapper? = some m)
    (prgRom : c.prgRom.good (16384 * c.prgBanks) = true) (chr : c.chr.good (8192 * c.chrBanks) = true)
    (ram : chrRam.good 8192 = true) : (c.insert m chrRam).Admitted := by
  obtain ⟨chrBanks, prgBanks, nrom⟩ := CartValue.mapper?_eq_some hm
  refine ⟨prgRom, ?_, chrBanks, prgBanks, nrom⟩
  show Cells.good (8192 * max 1 c.chrBanks) (if c.chrBanks = 0 then chrRam else c.chr) = true
  split_ifs with none
  · rw [none]; exact ram
  · rw [max_eq_right (by omega)]; exact chr

theorem resetWith_inRange {oam ciram : Memory} {pal : Cells 6} (ho : oam.good 256 = true) (hp : pal.good 32 = true)
    (palAlias : ∀ cell ∈ pal, cell.1 ≠ 16 ∧ cell.1 ≠ 20 ∧ cell.1 ≠ 24 ∧ cell.1 ≠ 28) (hc : ciram.good 2048 = true) :
    (Ppu.resetWith oam pal ciram).InRange :=
  ⟨ho, hp, palAlias, hc, Nat.le_refl 340, (by decide : 240 ≤ 261), (by decide : 0#4 &&& 3#4 = 0#4), Nat.zero_le 8, rfl⟩

/-! ## Plain memory -/

/-- RAM, PRG-RAM, the cartridge and the bank register are the same: every plain byte is. -/
structure SameMemory (s t : State) : Prop where
  ram : t.ram = s.ram
  prgRam : t.prgRam = s.prgRam
  cart : t.cart = s.cart
  bankSel : t.bankSel = s.bankSel

theorem RegistersOnly.sameMemory {s t : State} (h : RegistersOnly s t) : SameMemory s t :=
  ⟨h.ram, h.prgRam, h.cart, h.bankSel⟩

theorem SameMemory.refl (s : State) : SameMemory s s := ⟨rfl, rfl, rfl, rfl⟩

theorem SameMemory.trans {s t u : State} (h : SameMemory s t) (k : SameMemory t u) : SameMemory s u :=
  ⟨k.ram.trans h.ram, k.prgRam.trans h.prgRam, k.cart.trans h.cart, k.bankSel.trans h.bankSel⟩

theorem SameMemory.peek {s t : State} (h : SameMemory s t) (a : Word) : peek t a = peek s a := by
  have off : prgOffset t a = prgOffset s a := by
    unfold prgOffset
    rw [h.cart, h.bankSel]
  rw [Machine.peek, Machine.peek, off, h.ram, h.prgRam, h.cart]

theorem busRead_sameMemory {a : Word} {s t : State} {v : Byte} (h : busRead a s = .ok v t) : SameMemory s t := by
  rw [busRead_frame h]
  exact ⟨rfl, rfl, rfl, rfl⟩

theorem busRead16_sameMemory {a w : Word} {s t : State} (h : busRead16 a s = .ok w t) : SameMemory s t := by
  obtain ⟨_, _, _, hlo, hhi, -⟩ := busRead16_eq_ok h
  exact (busRead_sameMemory hlo).trans (busRead_sameMemory hhi)

theorem dmaCopy_sameMemory {base : Word} {n i : Nat} {s t : State} (h : dmaCopy base n i s = .ok () t) :
    SameMemory s t := by
  rw [dmaCopy_frame h]
  exact ⟨rfl, rfl, rfl, rfl⟩

/-- CHR is not CPU memory: a PPU register write changes no plain byte. -/
theorem peek_writePpuReg (n : Nat) (d : Byte) (s : State) (a : Word) : peek (writePpuReg n d s) a = peek s a := by
  rw [writePpuReg_frame]
  rfl

/-- Between `s` and `t` one byte is stored at `a`: below the PRG-ROM window every plain byte but that one stays, and in the
window, where a store reaches the mapper only, all memory does. -/
structure StoresOnlyAt (a : Word) (s t : State) : Prop where
  below : a.toNat < 0x8000 → ∀ b, sameByte a b = false → peek t b = peek s b
  window : 0x8000 ≤ a.toNat → t.ram = s.ram ∧ t.prgRam = s.prgRam ∧ t.cart = s.cart

theorem StoresOnlyAt.of_sameMemory {a : Word} {s t u v : State} (h : SameMemory s t) (k : StoresOnlyAt a t u)
    (l : SameMemory u v) : StoresOnlyAt a s v where
  below := fun ha b hb => by rw [l.peek, k.below ha b hb, h.peek]
  window := fun ha => by
    obtain ⟨ram, prgRam, cart⟩ := k.window ha
    exact ⟨l.ram.trans (ram.trans h.ram), l.prgRam.trans (prgRam.trans h.prgRam), l.cart.trans (cart.trans h.cart)⟩

/-- A CPU-bus write stores at its address only (R88). -/
theorem busWrite_storesOnlyAt {a : Word} {v : Byte} {s t : State} (ram : s.ram.wf = true) (prgRam : s.prgRam.wf = true)
    (h : busWrite a v s = .ok () t) : StoresOnlyAt a s t := by
  by_cases window : 0x8000 ≤ a.toNat
  · refine ⟨fun _ => by omega, fun _ => ?_⟩
    rw [busWrite_prg window] at h
    injection h with _ h
    subst h
    unfold prgWrite
    split <;> exact ⟨rfl, rfl, rfl⟩
  refine ⟨fun _ b hb => ?_, fun _ => by omega⟩
  unfold busWrite at h
  split_ifs at h
  · injection h with _ h
    subst h
    rw [peek_writeRam ram (by omega), hb, if_neg Bool.false_ne_true]
  · injection h with _ h
    subst h
    exact peek_writePpuReg _ v s b
  · obtain ⟨_, u, hu, h⟩ := Res.andThen_eq_ok h
    injection h with _ h
    subst h
    exact (dmaCopy_sameMemory hu).peek b
  · injection h with _ h
    subst h
    rfl
  · injection h with _ h
    subst h
    rfl
  · injection h with _ h
    subst h
    rw [peek_writePrgRam prgRam (by omega) (by omega), hb, if_neg Bool.false_ne_true]
  · omega

theorem SameMemory.storesOnlyAt {a : Word} {v : Byte} {s t u : State} (inv : s.Inv) (h : SameMemory s t)
    (hw : busWrite a v t = .ok () u) : StoresOnlyAt a s u :=
  .of_sameMemory h (busWrite_storesOnlyAt (h.ram ▸ Cells.good_wf inv.ram) (h.prgRam ▸ Cells.good_wf inv.prgRam) hw)
    (.refl u)

/-! ## The frames of the storing instructions -/

theorem afterFrame_sameMemory (i : Instr) (s : State) : SameMemory s (afterFrame i s) := by
  unfold afterFrame
  split <;> exact ⟨rfl, rfl, rfl, rfl⟩

/-- `i` stores the byte `value` gives at its effective address, in its frame (R166). -/
def IsStore (i : Instr) (value : State → Byte) : Prop :=
  ∀ s, exec i s = (busWrite (operandAddr i s) (value s) (afterFrame i s)).toOutcome

/-- `i` reads its operand, writes what `modify` makes of it at the same address, and runs `after` with the byte written,
in its frame (R98, R166). -/
def IsRmw (i : Instr) (modify : Byte → State → Byte × State) (after : Byte → State → State) : Prop :=
  ∀ s, exec i s = ((busRead (operandAddr i s) (afterFrame i s)).andThen fun v t =>
    (busWrite (operandAddr i s) (modify v t).1 (modify v t).2).andThen fun _ u =>
      .ok () (after (modify v t).1 u)).toOutcome

theorem isStore_of_row {i : Instr} {n c : Nat} {m : AddrMode} {value : State → Byte}
    (he : ∀ s, exec i s = storeInstr n c m value s) (hm : memMode i = some m)
    (hf : ∀ s, afterFrame i s = s.advance n c) : IsStore i value := by
  intro s
  rw [he, operandAddr, hm, hf]
  rfl

theorem isRmw_of_row {i : Instr} {n c : Nat} {m : AddrMode} {modify : Byte → State → Byte × State}
    {after : Byte → State → State} (he : ∀ s, exec i s = rmwInstr n c m modify after s) (hm : memMode i = some m)
    (hf : ∀ s, afterFrame i s = s.advance n c) : IsRmw i modify after := by
  intro s
  rw [he, operandAddr, hm, hf]
  rfl


/-- The four stores whose value holds `H`, in their frame, under `formula` (R328 to R332). -/
def IsHighStore (i : Instr) (op : Byte) (f : Byte → State → Byte × State) : Prop :=
  ∀ s, exec i s = unstableInstr op (fun s =>
    let r := f (highPlusOne i s) (afterFrame i s)
    (busWrite (highStoreAddr i s r.1) r.1 r.2).toOutcome) s

theorem EA.highPlusOne_eq {i : Instr} {m : AddrMode} (hm : memMode i = some m) (s : State) :
    (resolve m s).highPlusOne = Machine.highPlusOne i s := by
  apply BitVec.eq_of_toNat_eq
  simp [EA.highPlusOne, Machine.highPlusOne, hm, BitVec.toNat_add, highByte_toNat]

theorem EA.replacedHigh_eq {i : Instr} {m : AddrMode} (hm : memMode i = some m) (s : State) (v : Byte) :
    (resolve m s).replacedHigh v = highStoreAddr i s v := by
  have word : wordOf v (lowByte (resolve m s).addr) =
      BitVec.ofNat 16 (256 * v.toNat + (resolve m s).addr.toNat % 256) := by
    apply BitVec.eq_of_toNat_eq
    have := v.isLt
    rw [wordOf_toNat, lowByte_toNat, BitVec.toNat_ofNat]
    omega
  simp only [EA.replacedHigh, highStoreAddr, pageCrossed, operandAddr, hm, word]

theorem isHighStore_of_row {i : Instr} {op : Byte} {n c : Nat} {m : AddrMode} {f : Byte → State → Byte × State}
    (he : ∀ s, exec i s = unstableInstr op (highStoreInstr n c m f) s) (hm : memMode i = some m)
    (hf : ∀ s, afterFrame i s = s.advance n c) : IsHighStore i op f := by
  have frame : highStoreInstr n c m f = fun s =>
      let r := f (Machine.highPlusOne i s) (afterFrame i s)
      (busWrite (highStoreAddr i s r.1) r.1 r.2).toOutcome := by
    funext s
    simp only [highStoreInstr, EA.highPlusOne_eq hm, EA.replacedHigh_eq hm, hf]
  intro s
  rw [he, frame]

section Forms
variable (b : Byte) (w : Word)

theorem staForms_isStore : ∀ i ∈ staForms b w, IsStore i storedA := by
  intro i hi
  fin_cases hi <;> exact isStore_of_row (fun _ => rfl) (by simp) (by simp)

theorem stxForms_isStore : ∀ i ∈ stxForms b w, IsStore i storedX := by
  intro i hi
  fin_cases hi <;> exact isStore_of_row (fun _ => rfl) (by simp) (by simp)

theorem styForms_isStore : ∀ i ∈ styForms b w, IsStore i storedY := by
  intro i hi
  fin_cases hi <;> exact isStore_of_row (fun _ => rfl) (by simp) (by simp)

theorem saxForms_isStore : ∀ i ∈ saxForms b w, IsStore i storedAX := by
  intro i hi
  fin_cases hi <;> exact isStore_of_row (fun _ => rfl) (by simp) (by simp)

theorem incForms_isRmw : ∀ i ∈ incForms b w, IsRmw i incV afterRmw := by
  intro i hi
  fin_cases hi <;> exact isRmw_of_row (fun _ => rfl) (by simp) (by simp)

theorem decForms_isRmw : ∀ i ∈ decForms b w, IsRmw i decV afterRmw := by
  intro i hi
  fin_cases hi <;> exact isRmw_of_row (fun _ => rfl) (by simp) (by simp)

theorem aslForms_isRmw : ∀ i ∈ aslForms b w, IsRmw i asl afterRmw := by
  intro i hi
  fin_cases hi <;> exact isRmw_of_row (fun _ => rfl) (by simp) (by simp)

theorem lsrForms_isRmw : ∀ i ∈ lsrForms b w, IsRmw i lsr afterRmw := by
  intro i hi
  fin_cases hi <;> exact isRmw_of_row (fun _ => rfl) (by simp) (by simp)

theorem rolForms_isRmw : ∀ i ∈ rolForms b w, IsRmw i rol afterRmw := by
  intro i hi
  fin_cases hi <;> exact isRmw_of_row (fun _ => rfl) (by simp) (by simp)

theorem rorForms_isRmw : ∀ i ∈ rorForms b w, IsRmw i ror afterRmw := by
  intro i hi
  fin_cases hi <;> exact isRmw_of_row (fun _ => rfl) (by simp) (by simp)

theorem sloForms_isRmw : ∀ i ∈ sloForms b w, IsRmw i asl orAcc := by
  intro i hi
  fin_cases hi <;> exact isRmw_of_row (fun _ => rfl) (by simp) (by simp)

theorem rlaForms_isRmw : ∀ i ∈ rlaForms b w, IsRmw i rol andAcc := by
  intro i hi
  fin_cases hi <;> exact isRmw_of_row (fun _ => rfl) (by simp) (by simp)

theorem sreForms_isRmw : ∀ i ∈ sreForms b w, IsRmw i lsr eorAcc := by
  intro i hi
  fin_cases hi <;> exact isRmw_of_row (fun _ => rfl) (by simp) (by simp)

theorem rraForms_isRmw : ∀ i ∈ rraForms b w, IsRmw i ror addM := by
  intro i hi
  fin_cases hi <;> exact isRmw_of_row (fun _ => rfl) (by simp) (by simp)

theorem dcpForms_isRmw : ∀ i ∈ dcpForms b w, IsRmw i decV cmpM := by
  intro i hi
  fin_cases hi <;> exact isRmw_of_row (fun _ => rfl) (by simp) (by simp)

theorem isbForms_isRmw : ∀ i ∈ isbForms b w, IsRmw i incV subM := by
  intro i hi
  fin_cases hi <;> exact isRmw_of_row (fun _ => rfl) (by simp) (by simp)

theorem ahxIndY_isHighStore : IsHighStore (.ahxIndY b) 0x93 ahxStore :=
  isHighStore_of_row (fun _ => rfl) (memMode_ahxIndY b) (afterFrame_ahxIndY b)

theorem ahxAbsY_isHighStore : IsHighStore (.ahxAbsY w) 0x9F ahxStore :=
  isHighStore_of_row (fun _ => rfl) (memMode_ahxAbsY w) (afterFrame_ahxAbsY w)

theorem tasAbsY_isHighStore : IsHighStore (.tasAbsY w) 0x9B tasStore :=
  isHighStore_of_row (fun _ => rfl) (memMode_tasAbsY w) (afterFrame_tasAbsY w)

theorem shyAbsX_isHighStore : IsHighStore (.shyAbsX w) 0x9C shyStore :=
  isHighStore_of_row (fun _ => rfl) (memMode_shyAbsX w) (afterFrame_shyAbsX w)

theorem shxAbsY_isHighStore : IsHighStore (.shxAbsY w) 0x9E shxStore :=
  isHighStore_of_row (fun _ => rfl) (memMode_shxAbsY w) (afterFrame_shxAbsY w)

end Forms

/-! ## What the storing instructions change -/

theorem IsStore.storesOnlyAt {i : Instr} {value : State → Byte} (store : IsStore i value) {s t : State} (inv : s.Inv)
    (h : exec i s = .next t) : StoresOnlyAt (operandAddr i s) s t := by
  rw [store] at h
  exact (afterFrame_sameMemory i s).storesOnlyAt inv (Res.toOutcome_eq_next h)

theorem IsRmw.storesOnlyAt {i : Instr} {f : Byte → State → Byte × State} {g : Byte → State → State} (rmw : IsRmw i f g)
    (modify : ModifyOp f) (after : AfterOp g) {s t : State} (inv : s.Inv) (h : exec i s = .next t) :
    StoresOnlyAt (operandAddr i s) s t := by
  rw [rmw] at h
  obtain ⟨v, u, hr, h⟩ := Res.andThen_eq_ok (Res.toOutcome_eq_next h)
  obtain ⟨_, x, hw, h⟩ := Res.andThen_eq_ok h
  injection h with _ h
  subst h
  have before : SameMemory s (f v u).2 :=
    (afterFrame_sameMemory i s).trans ((busRead_sameMemory hr).trans (modify.registersOnly v u).sameMemory)
  exact .of_sameMemory (.refl s) (before.storesOnlyAt inv hw) (after.registersOnly _ x).sameMemory

theorem IsHighStore.storesOnlyAt {i : Instr} {op : Byte} {f : Byte → State → Byte × State} (high : IsHighStore i op f)
    (value : HighOp f) {s t : State} (inv : s.Inv) (h : exec i s = .next t) :
    StoresOnlyAt (highStoreAddr i s (f (highPlusOne i s) (afterFrame i s)).1) s t := by
  rw [high] at h
  exact ((afterFrame_sameMemory i s).trans (value.registersOnly _ _).sameMemory).storesOnlyAt inv
    (Res.toOutcome_eq_next (unstableInstr_eq_next h))

/-- The stores and read-modify-write instructions of the statement. -/
def storingForms (b : Byte) (w : Word) : List Instr :=
  staForms b w ++ stxForms b w ++ styForms b w ++ saxForms b w ++ incForms b w ++ decForms b w ++ aslForms b w ++
    lsrForms b w ++ rolForms b w ++ rorForms b w ++ sloForms b w ++ rlaForms b w ++ sreForms b w ++ rraForms b w ++
    dcpForms b w ++ isbForms b w

theorem storingForms_storesOnlyAt {b : Byte} {w : Word} {s t : State} (inv : s.Inv) : ∀ i ∈ storingForms b w,
    exec i s = .next t → StoresOnlyAt (operandAddr i s) s t := by
  simp only [storingForms, List.forall_mem_append, and_assoc]
  exact ⟨fun i hi => (staForms_isStore b w i hi).storesOnlyAt inv,
    fun i hi => (stxForms_isStore b w i hi).storesOnlyAt inv,
    fun i hi => (styForms_isStore b w i hi).storesOnlyAt inv,
    fun i hi => (saxForms_isStore b w i hi).storesOnlyAt inv,
    fun i hi => (incForms_isRmw b w i hi).storesOnlyAt .inc .zn inv,
    fun i hi => (decForms_isRmw b w i hi).storesOnlyAt .dec .zn inv,
    fun i hi => (aslForms_isRmw b w i hi).storesOnlyAt .asl .zn inv,
    fun i hi => (lsrForms_isRmw b w i hi).storesOnlyAt .lsr .zn inv,
    fun i hi => (rolForms_isRmw b w i hi).storesOnlyAt .rol .zn inv,
    fun i hi => (rorForms_isRmw b w i hi).storesOnlyAt .ror .zn inv,
    fun i hi => (sloForms_isRmw b w i hi).storesOnlyAt .asl .ora inv,
    fun i hi => (rlaForms_isRmw b w i hi).storesOnlyAt .rol .and inv,
    fun i hi => (sreForms_isRmw b w i hi).storesOnlyAt .lsr .eor inv,
    fun i hi => (rraForms_isRmw b w i hi).storesOnlyAt .ror .adc inv,
    fun i hi => (dcpForms_isRmw b w i hi).storesOnlyAt .dec .cmp inv,
    fun i hi => (isbForms_isRmw b w i hi).storesOnlyAt .inc .sbc inv⟩

/-- The value and the address of each unstable store, from the state before it (R328 to R331). -/
theorem unstableStores_storesOnlyAt {b v : Byte} {w : Word} {i : Instr} {s t : State} (inv : s.Inv)
    (h : exec i s = .next t) (hv : i ∈ [Instr.ahxIndY b, .ahxAbsY w] ∧ v = s.a &&& s.x &&& highPlusOne i s ∨
      i = .tasAbsY w ∧ v = s.a &&& s.x &&& highPlusOne i s ∨ i = .shyAbsX w ∧ v = s.y &&& highPlusOne i s ∨
      i = .shxAbsY w ∧ v = s.x &&& highPlusOne i s) : StoresOnlyAt (highStoreAddr i s v) s t := by
  obtain ⟨ahx, rfl⟩ | ⟨rfl, rfl⟩ | ⟨rfl, rfl⟩ | ⟨rfl, rfl⟩ := hv
  · fin_cases ahx
    · simpa [ahxStore] using (ahxIndY_isHighStore b).storesOnlyAt .ahx inv h
    · simpa [ahxStore] using (ahxAbsY_isHighStore w).storesOnlyAt .ahx inv h
  · simpa [tasStore] using (tasAbsY_isHighStore w).storesOnlyAt .tas inv h
  · simpa [shyStore] using (shyAbsX_isHighStore w).storesOnlyAt .shy inv h
  · simpa [shxStore] using (shxAbsY_isHighStore w).storesOnlyAt .shx inv h

/-! ## What the pushing instructions change -/

theorem push_ram_wf {s : State} (ram : s.ram.wf = true) (v : Byte) : (s.push v).ram.wf = true := Cells.wf_write ram _ v

theorem peek_push {s : State} (ram : s.ram.wf = true) (v : Byte) {a : Word} (h : sameByte (wordOf 1 s.sp) a = false) :
    peek (s.push v) a = peek s a := by
  have written := peek_writeRam ram (stackAddr_le s.sp) v a
  rwa [stackAddr, h, if_neg Bool.false_ne_true] at written

theorem peek_push16 {s : State} (ram : s.ram.wf = true) (w : Word) {a : Word}
    (h0 : sameByte (wordOf 1 s.sp) a = false) (h1 : sameByte (wordOf 1 (s.sp - 1)) a = false) :
    peek (s.push16 w) a = peek s a := by
  rw [State.push16, peek_push (push_ram_wf ram _) _ h1, peek_push ram _ h0]

/-- All an interrupt entry can answer without a fault: the frame is pushed, I set, and PC read from the vector (R509). -/
theorem enterInterrupt_eq_ok {brk : Bool} {vector : Word} {s t : State} (h : enterInterrupt brk vector s = .ok () t) :
    ∃ w u, busRead16 vector (((s.push16 s.pc).push (s.p.pack brk)).setI true) = .ok w u ∧ t = u.setPc w := by
  obtain ⟨w, u, hr, h⟩ := Res.andThen_eq_ok h
  injection h with _ h
  exact ⟨w, u, hr, h.symm⟩

theorem peek_enterInterrupt {brk : Bool} {vector : Word} {s t : State} (ram : s.ram.wf = true)
    (h : enterInterrupt brk vector s = .ok () t) {a : Word} (h0 : sameByte (wordOf 1 s.sp) a = false)
    (h1 : sameByte (wordOf 1 (s.sp - 1)) a = false) (h2 : sameByte (wordOf 1 (s.sp - 2)) a = false) :
    peek t a = peek s a := by
  obtain ⟨w, u, hr, rfl⟩ := enterInterrupt_eq_ok h
  have third : (s.push16 s.pc).sp = s.sp - 2 := by
    show s.sp - 1 - 1 = _
    bv_omega
  calc peek (u.setPc w) a = peek ((s.push16 s.pc).push (s.p.pack brk)) a := (busRead16_sameMemory hr).peek a
    _ = peek (s.push16 s.pc) a := peek_push (s := s.push16 s.pc) (push_ram_wf (push_ram_wf ram _) _) _ (by rwa [third])
    _ = peek s a := peek_push16 ram s.pc h0 h1

/-! ## The statements -/

/-- Settles O10: the counts row by row of the map, the rows by one case per instruction. -/
theorem opcodeMapCounts : Obligations.OpcodeMapCounts :=
  ⟨by rw [List.length_flatten]; decide, opcodeMap_countP (by decide), opcodeMap_countP (by decide),
    opcodeMap_countP (by decide), opcodeMap_countP (by decide), opcodeMap_countP (by decide),
    descriptor?_size_pageCross⟩

/-- Settles O47: the four handlers in their frames, with the stack and the flags in the statement's words. -/
theorem stackInstructions : Obligations.StackInstructions := by
  intro s
  refine ⟨?_, ?_, ?_, ?_⟩
  · rw [exec_of_implied rfl (afterFrame_pha s), phaOp, push_eq, afterFrame_pha]
    rfl
  · rw [exec_of_implied rfl (afterFrame_php s), phpOp, push_eq, pack_eq_statusByte, afterFrame_php]
    rfl
  · rw [exec_of_implied rfl (afterFrame_pla s), plaOp, setZN_eq, pulled_eq, afterFrame_pla]
    rfl
  · rw [exec_of_implied rfl (afterFrame_plp s), plpOp, pulled_eq, unpack_eq_statusOf, afterFrame_plp]
    rfl

/-- Settles O5: the reset state has the invariant, and the two reads of the reset vector keep it. -/
theorem invariantAfterConstruction : Obligations.InvariantAfterConstruction := by
  intro c o params irq t h prgRom chr ram prgRam chrRam ciram oam pal palAlias delay
  obtain ⟨m, w, u, hm, hr, rfl⟩ := construct_eq_next h
  have cart := CartValue.insert_admitted hm prgRom chr chrRam
  have start : (beforeVector (c.insert m o.chrRam) o params irq).Inv :=
    ⟨ram, prgRam, cart, cart.prgBanks, resetWith_inRange oam pal palAlias ciram, delay, Nat.zero_le _⟩
  exact (Keeps.setPc u w).inv ((Keeps.read16 hr).inv start)

/-- Settles O39, from what every operation keeps. -/
theorem romNeverChanges : Obligations.RomNeverChanges :=
  fun _ _ h => ⟨(Keeps.step h).cart, (Keeps.step h).rom, (Keeps.step h).params⟩

/-- Settles O43: the stores by their frames, the pushes by the bytes pushed. -/
theorem storesChangeOnlyTheirByte : Obligations.StoresChangeOnlyTheirByte := by
  intro b w s t i inv h
  have ram : s.ram.wf = true := Cells.good_wf inv.ram
  refine ⟨fun hi => ?_, fun v hv => ?_, ?_, ?_, ?_⟩
  · have only := storingForms_storesOnlyAt inv i hi h
    exact ⟨only.below, only.window⟩
  · have only := unstableStores_storesOnlyAt inv h hv
    exact ⟨only.below, only.window⟩
  · rintro (rfl | rfl) a h0 <;> injection h with h <;> subst h
    · exact peek_push (s := s.advance 1 3) ram _ h0
    · exact peek_push (s := s.advance 1 3) ram _ h0
  · rintro rfl a h0 h1
    injection h with h
    subst h
    exact peek_push16 (s := s.advance 3 6) ram _ h0 h1
  · rintro rfl a h0 h1 h2
    exact peek_enterInterrupt (s := s.advance 2 7) ram (Res.toOutcome_eq_next h) h0 h1 h2

end Sys2Proof.Machine
end

section
/-! Proofs of the statements of state: what every step keeps, and which instructions write each register and flag. -/

namespace Sys2Proof.Machine

/-! ## The writers of each register -/

/-- A field that only a mnemonic with `written` may change. -/
def Kept {α : Type} (written : Bool) (old new : α) : Prop := new = bif written then new else old

theorem Kept.of_eq {α : Type} {w : Bool} {old new : α} (h : new = old) : Kept w old new := by
  cases w
  · exact h
  · rfl

theorem Kept.of_written {α : Type} {w : Bool} (hw : w = true) (old new : α) : Kept w old new := by
  rw [hw]
  rfl

theorem Kept.eq {α : Type} {w : Bool} {old new : α} (h : Kept w old new) (hw : w = false) : new = old := by
  rw [hw] at h
  exact h

theorem Kept.trans {α : Type} {w : Bool} {x y z : α} (h : Kept w x y) (k : Kept w y z) : Kept w x z := by
  cases w
  · exact Eq.trans k h
  · rfl

/-- The writers of A (R31). -/
def aWriters : List Mnemonic :=
  [.mLDA, .mPLA, .mTXA, .mTYA, .mADC, .mSBC, .mAND, .mORA, .mEOR, .mASL, .mLSR, .mROL, .mROR, .mSLO, .mRLA,
    .mSRE, .mRRA, .mLAX, .mISB, .mANC, .mALR, .mARR, .mLAS, .mXAA, .mLXA]

/-- The writers of X (R32). -/
def xWriters : List Mnemonic := [.mLDX, .mTAX, .mTSX, .mINX, .mDEX, .mLAX, .mAXS, .mLAS, .mLXA]

/-- The writers of Y (R32). -/
def yWriters : List Mnemonic := [.mLDY, .mTAY, .mINY, .mDEY]

/-- The writers of SP (R33). -/
def spWriters : List Mnemonic :=
  [.mTXS, .mLAS, .mTAS, .mPHA, .mPHP, .mPLA, .mPLP, .mJSR, .mRTS, .mBRK, .mRTI]

/-- The writers of C (R36). -/
def cWriters : List Mnemonic :=
  [.mADC, .mSBC, .mCMP, .mCPX, .mCPY, .mASL, .mLSR, .mROL, .mROR, .mCLC, .mSEC, .mPLP, .mRTI, .mSLO, .mRLA,
    .mSRE, .mRRA, .mDCP, .mISB, .mANC, .mALR, .mARR, .mAXS]

/-- The writers of I (R38). -/
def iWriters : List Mnemonic := [.mSEI, .mCLI, .mPLP, .mRTI, .mBRK]

/-- The writers of D (R39). -/
def dWriters : List Mnemonic := [.mSED, .mCLD, .mPLP, .mRTI]

/-- The writers of V (R42). -/
def vWriters : List Mnemonic := [.mADC, .mSBC, .mBIT, .mCLV, .mPLP, .mRTI, .mRRA, .mISB, .mARR]

/-- The stores, pushes, jumps, branches and flag instructions: those that leave Z and N, but for the
read-modify-write instructions among them (R37, R43). -/
def znBystanders : List Mnemonic :=
  memoryWriters ++ stackWriters ++ [.mJMP, .mJAM, .mNOP, .mRTS, .mTXS, .mBPL, .mBMI, .mBVC, .mBVS, .mBCC,
    .mBCS, .mBNE, .mBEQ, .mCLC, .mSEC, .mCLI, .mSEI, .mCLD, .mSED, .mCLV]

/-- The read-modify-write instructions. -/
def rmwWriters : List Mnemonic :=
  [.mINC, .mDEC, .mASL, .mLSR, .mROL, .mROR, .mSLO, .mRLA, .mSRE, .mRRA, .mDCP, .mISB]

/-- The mnemonic may write Z and N. -/
def writesZN (m : Mnemonic) : Bool := !znBystanders.contains m || rmwWriters.contains m

/-- Between `s` and `t` the registers, the flags, the bank register and the stall change only if the mnemonic is a
writer of theirs; the NMI latch is the same. -/
structure WritesOnly (m : Mnemonic) (s t : State) : Prop where
  a : Kept (aWriters.contains m) s.a t.a
  x : Kept (xWriters.contains m) s.x t.x
  y : Kept (yWriters.contains m) s.y t.y
  sp : Kept (spWriters.contains m) s.sp t.sp
  c : Kept (cWriters.contains m) s.p.c t.p.c
  i : Kept (iWriters.contains m) s.p.i t.p.i
  d : Kept (dWriters.contains m) s.p.d t.p.d
  v : Kept (vWriters.contains m) s.p.v t.p.v
  z : Kept (writesZN m) s.p.z t.p.z
  n : Kept (writesZN m) s.p.n t.p.n
  bankSel : Kept (memoryWriters.contains m) s.bankSel t.bankSel
  stall : Kept (memoryWriters.contains m) s.stall t.stall
  nmiPending : t.nmiPending = s.nmiPending

theorem WritesOnly.trans {m : Mnemonic} {s t u : State} (h : WritesOnly m s t) (k : WritesOnly m t u) :
    WritesOnly m s u :=
  ⟨h.a.trans k.a, h.x.trans k.x, h.y.trans k.y, h.sp.trans k.sp, h.c.trans k.c, h.i.trans k.i, h.d.trans k.d,
    h.v.trans k.v, h.z.trans k.z, h.n.trans k.n, h.bankSel.trans k.bankSel, h.stall.trans k.stall,
    k.nmiPending.trans h.nmiPending⟩

/-- Any mnemonic may change PC, the cycle counter, the PPU, the event streams and the count of draws. -/
theorem WritesOnly.unguarded (m : Mnemonic) (s : State) (pc : Word) (cycles : Nat) (ppu : Ppu) (out : Outputs)
    (draws : Nat) : WritesOnly m s { s with pc := pc, cycles := cycles, ppu := ppu, out := out, draws := draws } :=
  ⟨.of_eq rfl, .of_eq rfl, .of_eq rfl, .of_eq rfl, .of_eq rfl, .of_eq rfl, .of_eq rfl, .of_eq rfl, .of_eq rfl,
    .of_eq rfl, .of_eq rfl, .of_eq rfl, rfl⟩

theorem WritesOnly.advance (m : Mnemonic) (s : State) (n c : Nat) : WritesOnly m s (s.advance n c) :=
  .unguarded m s _ _ _ _ _

theorem WritesOnly.setPc (m : Mnemonic) (s : State) (w : Word) : WritesOnly m s (s.setPc w) :=
  .unguarded m s _ _ _ _ _

theorem WritesOnly.addCycles (m : Mnemonic) (s : State) (c : Nat) : WritesOnly m s (s.addCycles c) :=
  .unguarded m s _ _ _ _ _

theorem WritesOnly.read {m : Mnemonic} {a : Word} {v : Byte} {s t : State} (h : busRead a s = .ok v t) :
    WritesOnly m s t := by
  rw [busRead_frame h]
  exact .unguarded m s _ _ _ _ _

theorem WritesOnly.write {m : Mnemonic} (hm : memoryWriters.contains m = true) {a : Word} {v : Byte} {s t : State}
    (h : busWrite a v s = .ok () t) : WritesOnly m s t := by
  rw [busWrite_frame h]
  exact ⟨.of_eq rfl, .of_eq rfl, .of_eq rfl, .of_eq rfl, .of_eq rfl, .of_eq rfl, .of_eq rfl, .of_eq rfl, .of_eq rfl,
    .of_eq rfl, .of_written hm _ _, .of_written hm _ _, rfl⟩

theorem WritesOnly.push {m : Mnemonic} (hm : spWriters.contains m = true) (s : State) (v : Byte) :
    WritesOnly m s (s.push v) :=
  ⟨.of_eq rfl, .of_eq rfl, .of_eq rfl, .of_written hm _ _, .of_eq rfl, .of_eq rfl, .of_eq rfl, .of_eq rfl, .of_eq rfl,
    .of_eq rfl, .of_eq rfl, .of_eq rfl, rfl⟩

theorem WritesOnly.push16 {m : Mnemonic} (hm : spWriters.contains m = true) (s : State) (w : Word) :
    WritesOnly m s (s.push16 w) :=
  (WritesOnly.push hm s _).trans (.push hm _ _)

theorem WritesOnly.setI {m : Mnemonic} (hm : iWriters.contains m = true) (s : State) (b : Bool) :
    WritesOnly m s (s.setI b) :=
  ⟨.of_eq rfl, .of_eq rfl, .of_eq rfl, .of_eq rfl, .of_eq rfl, .of_written hm _ _, .of_eq rfl, .of_eq rfl, .of_eq rfl,
    .of_eq rfl, .of_eq rfl, .of_eq rfl, rfl⟩

/-! ## The handler of each mnemonic -/

/-- The mnemonic's handler in its implied form. -/
inductive ImpliedOf : Mnemonic → (State → State) → Prop
  | tax : ImpliedOf .mTAX taxOp | tay : ImpliedOf .mTAY tayOp | txa : ImpliedOf .mTXA txaOp
  | tya : ImpliedOf .mTYA tyaOp | tsx : ImpliedOf .mTSX tsxOp | txs : ImpliedOf .mTXS txsOp
  | inx : ImpliedOf .mINX inxOp | iny : ImpliedOf .mINY inyOp | dex : ImpliedOf .mDEX dexOp
  | dey : ImpliedOf .mDEY deyOp | pha : ImpliedOf .mPHA phaOp | php : ImpliedOf .mPHP phpOp
  | pla : ImpliedOf .mPLA plaOp | plp : ImpliedOf .mPLP plpOp | rts : ImpliedOf .mRTS rtsOp
  | rti : ImpliedOf .mRTI returnFromInterrupt | clc : ImpliedOf .mCLC clcOp | sec : ImpliedOf .mSEC secOp
  | cli : ImpliedOf .mCLI cliOp | sei : ImpliedOf .mSEI seiOp | cld : ImpliedOf .mCLD cldOp
  | sed : ImpliedOf .mSED sedOp | clv : ImpliedOf .mCLV clvOp | nop : ImpliedOf .mNOP nopOp

/-- The mnemonic's handler of an operand byte. -/
inductive ReadOf : Mnemonic → (Byte → State → State) → Prop
  | lda : ReadOf .mLDA loadA | ldx : ReadOf .mLDX loadX | ldy : ReadOf .mLDY loadY
  | adc : ReadOf .mADC addM | sbc : ReadOf .mSBC subM | and : ReadOf .mAND andAcc | ora : ReadOf .mORA orAcc
  | eor : ReadOf .mEOR eorAcc | cmp : ReadOf .mCMP cmpM | cpx : ReadOf .mCPX cpxM | cpy : ReadOf .mCPY cpyM
  | bit : ReadOf .mBIT bitM | lax : ReadOf .mLAX laxM | las : ReadOf .mLAS lasM | nop : ReadOf .mNOP nopM
  | anc : ReadOf .mANC ancM | alr : ReadOf .mALR alrM | arr : ReadOf .mARR arrM | axs : ReadOf .mAXS axsM
  | xaa : ReadOf .mXAA xaaM | lxa : ReadOf .mLXA lxaM

/-- The mnemonic's shift or rotate of A. -/
inductive AccOf : Mnemonic → (Byte → State → Byte × State) → Prop
  | asl : AccOf .mASL asl | lsr : AccOf .mLSR lsr | rol : AccOf .mROL rol | ror : AccOf .mROR ror

/-- What the mnemonic makes of the byte read, and what it does after the write. -/
inductive RmwOf : Mnemonic → (Byte → State → Byte × State) → (Byte → State → State) → Prop
  | inc : RmwOf .mINC incV afterRmw | dec : RmwOf .mDEC decV afterRmw
  | asl : RmwOf .mASL asl afterRmw | lsr : RmwOf .mLSR lsr afterRmw
  | rol : RmwOf .mROL rol afterRmw | ror : RmwOf .mROR ror afterRmw
  | slo : RmwOf .mSLO asl orAcc | rla : RmwOf .mRLA rol andAcc
  | sre : RmwOf .mSRE lsr eorAcc | rra : RmwOf .mRRA ror addM
  | dcp : RmwOf .mDCP decV cmpM | isb : RmwOf .mISB incV subM

/-- The mnemonic's value from `H` (R328 to R331). -/
inductive HighOf : Mnemonic → (Byte → State → Byte × State) → Prop
  | ahx : HighOf .mAHX ahxStore | tas : HighOf .mTAS tasStore | shy : HighOf .mSHY shyStore
  | shx : HighOf .mSHX shxStore

theorem ImpliedOf.writesOnly {m : Mnemonic} {f : State → State} (h : ImpliedOf m f) (s : State) :
    WritesOnly m s (f s) := by
  cases h <;> exact ⟨rfl, rfl, rfl, rfl, rfl, rfl, rfl, rfl, rfl, rfl, rfl, rfl, rfl⟩

theorem ReadOf.writesOnly {m : Mnemonic} {f : Byte → State → State} (h : ReadOf m f) (v : Byte) (s : State) :
    WritesOnly m s (f v s) := by
  cases h <;> exact ⟨rfl, rfl, rfl, rfl, rfl, rfl, rfl, rfl, rfl, rfl, rfl, rfl, rfl⟩

theorem AccOf.writesOnly {m : Mnemonic} {f : Byte → State → Byte × State} (h : AccOf m f) (v : Byte) (s : State) :
    WritesOnly m s (((f v s).2.setA (f v s).1).setZN (f v s).1) := by
  cases h <;> exact ⟨rfl, rfl, rfl, rfl, rfl, rfl, rfl, rfl, rfl, rfl, rfl, rfl, rfl⟩

theorem RmwOf.writesOnly_modify {m : Mnemonic} {f : Byte → State → Byte × State} {g : Byte → State → State}
    (h : RmwOf m f g) (v : Byte) (s : State) : WritesOnly m s (f v s).2 := by
  cases h <;> exact ⟨rfl, rfl, rfl, rfl, rfl, rfl, rfl, rfl, rfl, rfl, rfl, rfl, rfl⟩

theorem RmwOf.writesOnly_after {m : Mnemonic} {f : Byte → State → Byte × State} {g : Byte → State → State}
    (h : RmwOf m f g) (v : Byte) (s : State) : WritesOnly m s (g v s) := by
  cases h <;> exact ⟨rfl, rfl, rfl, rfl, rfl, rfl, rfl, rfl, rfl, rfl, rfl, rfl, rfl⟩

theorem RmwOf.stores {m : Mnemonic} {f : Byte → State → Byte × State} {g : Byte → State → State}
    (h : RmwOf m f g) : memoryWriters.contains m = true := by
  cases h <;> rfl

theorem HighOf.writesOnly {m : Mnemonic} {f : Byte → State → Byte × State} (h : HighOf m f) (v : Byte) (s : State) :
    WritesOnly m s (f v s).2 := by
  cases h <;> exact ⟨rfl, rfl, rfl, rfl, rfl, rfl, rfl, rfl, rfl, rfl, rfl, rfl, rfl⟩

theorem HighOf.stores {m : Mnemonic} {f : Byte → State → Byte × State} (h : HighOf m f) :
    memoryWriters.contains m = true := by
  cases h <;> rfl

/-! ## The frames -/

/-- Where `o` answers a next state, the mnemonic is a writer of what has changed. -/
def RunsWithin (m : Mnemonic) (o : State → Outcome) : Prop := ∀ ⦃s t⦄, o s = .next t → WritesOnly m s t

theorem ImpliedOf.within {m : Mnemonic} {f : State → State} (op : ImpliedOf m f) {n c : Nat} :
    RunsWithin m (impliedInstr n c f) := by
  intro s t h
  injection h with h
  subst h
  exact (WritesOnly.advance m s n c).trans (op.writesOnly _)

theorem ReadOf.within_imm {m : Mnemonic} {f : Byte → State → State} (op : ReadOf m f) {n c : Nat} {b : Byte} :
    RunsWithin m (immInstr n c f b) := by
  intro s t h
  injection h with h
  subst h
  exact (WritesOnly.advance m s n c).trans (op.writesOnly b _)

theorem ReadOf.within_read {m : Mnemonic} {f : Byte → State → State} (op : ReadOf m f) {n c x : Nat}
    {mode : AddrMode} : RunsWithin m (readInstr n c x mode f) := by
  intro s t h
  obtain ⟨v, u, hr, rfl⟩ := readInstr_eq_next h
  exact (WritesOnly.advance m s n _).trans ((WritesOnly.read hr).trans (op.writesOnly v u))

theorem AccOf.within {m : Mnemonic} {f : Byte → State → Byte × State} (op : AccOf m f) {n c : Nat} :
    RunsWithin m (accInstr n c f) := by
  intro s t h
  injection h with h
  subst h
  exact (WritesOnly.advance m s n c).trans (op.writesOnly s.a _)

theorem within_store {m : Mnemonic} (hm : memoryWriters.contains m = true) {n c : Nat} {mode : AddrMode}
    {value : State → Byte} : RunsWithin m (storeInstr n c mode value) :=
  fun s _ h => (WritesOnly.advance m s n c).trans (.write hm (storeInstr_eq_next h))

theorem RmwOf.within {m : Mnemonic} {f : Byte → State → Byte × State} {g : Byte → State → State} (op : RmwOf m f g)
    {n c : Nat} {mode : AddrMode} : RunsWithin m (rmwInstr n c mode f g) := by
  intro s t h
  obtain ⟨v, u, w, hr, hw, rfl⟩ := rmwInstr_eq_next h
  exact (WritesOnly.advance m s n c).trans ((WritesOnly.read hr).trans ((op.writesOnly_modify v u).trans
    ((WritesOnly.write op.stores hw).trans (op.writesOnly_after _ w))))

theorem RunsWithin.unstable {m : Mnemonic} {o : State → Outcome} (h : RunsWithin m o) {op : Byte} :
    RunsWithin m (unstableInstr op o) :=
  fun _ _ hn => h (unstableInstr_eq_next hn)

theorem HighOf.within {m : Mnemonic} {f : Byte → State → Byte × State} (op : HighOf m f) {n c : Nat}
    {mode : AddrMode} : RunsWithin m (highStoreInstr n c mode f) :=
  fun s _ h => (WritesOnly.advance m s n c).trans
    ((op.writesOnly _ _).trans (.write op.stores (Res.toOutcome_eq_next h)))

theorem within_branch {m : Mnemonic} {cond : State → Bool} {off : Int} :
    RunsWithin m fun s => branchInstr 2 2 (cond s) off s := by
  intro s t h
  dsimp only [branchInstr] at h
  split at h <;> injection h with h <;> subst h
  · exact (WritesOnly.advance m s 2 2).trans ((WritesOnly.setPc m _ _).trans (.addCycles m _ _))
  · exact .advance m s 2 2

theorem within_jmp {m : Mnemonic} {addr : Word} : RunsWithin m (execJmpAbs addr) := by
  intro s t h
  injection h with h
  subst h
  exact (WritesOnly.advance m s 3 3).trans (.setPc m _ _)

theorem within_jmpInd {m : Mnemonic} {addr : Word} : RunsWithin m (execJmpInd addr) := by
  intro s t h
  obtain ⟨target, u, hr, h⟩ := Res.andThen_eq_ok (Res.toOutcome_eq_next h)
  injection h with _ h
  subst h
  obtain ⟨_, _, _, hlo, hhi, -⟩ := busReadPtrWrap_eq_ok hr
  exact (WritesOnly.read hlo).trans ((WritesOnly.read hhi).trans ((WritesOnly.advance m u 3 5).trans (.setPc m _ _)))

theorem within_jsr {addr : Word} : RunsWithin .mJSR (jsrTo 3 6 addr) := by
  intro s t h
  injection h with h
  subst h
  exact (WritesOnly.advance _ s 3 6).trans ((WritesOnly.push16 rfl _ _).trans (.setPc _ _ _))

theorem within_brk : RunsWithin .mBRK execBrk := by
  intro s t h
  obtain ⟨w, u, hr, rfl⟩ := enterInterrupt_eq_ok (Res.toOutcome_eq_next h)
  obtain ⟨_, _, _, hlo, hhi, -⟩ := busRead16_eq_ok hr
  exact (WritesOnly.advance _ s 2 7).trans ((WritesOnly.push16 rfl _ _).trans ((WritesOnly.push rfl _ _).trans
    ((WritesOnly.setI rfl _ _).trans ((WritesOnly.read hlo).trans ((WritesOnly.read hhi).trans (.setPc _ u w))))))

theorem within_jam {m : Mnemonic} : RunsWithin m (jamInstr 1 2) := fun _ _ h => nomatch h

/-! ## Every instruction -/

/-- Every instruction runs within its mnemonic, the one its row of the opcode table names. -/
theorem exec_within (i : Instr) :
    ∃ m, i.descriptor?.map Descriptor.mnemonic = some m ∧ RunsWithin m (exec i) := by
  cases i with
  | brk => exact ⟨.mBRK, by simp, within_brk⟩
  | oraIndX | oraZp | oraAbs | oraIndY | oraZpX | oraAbsY | oraAbsX => exact ⟨.mORA, by simp, ReadOf.ora.within_read⟩
  | oraImm => exact ⟨.mORA, by simp, ReadOf.ora.within_imm⟩
  | jam02 | jam12 | jam22 | jam32 | jam42 | jam52 | jam62 | jam72 | jam92 | jamB2 | jamD2 | jamF2 =>
    exact ⟨.mJAM, by simp, within_jam⟩
  | sloIndX | sloZp | sloAbs | sloIndY | sloZpX | sloAbsY | sloAbsX => exact ⟨.mSLO, by simp, RmwOf.slo.within⟩
  | nopZp04 | nopAbs | nopZpX14 | nopAbsX1C | nopZpX34 | nopAbsX3C | nopZp44 | nopZpX54 | nopAbsX5C | nopZp64
  | nopZpX74 | nopAbsX7C | nopZpXD4 | nopAbsXDC | nopZpXF4 | nopAbsXFC => exact ⟨.mNOP, by simp, ReadOf.nop.within_read⟩
  | nopImp1A | nopImp3A | nopImp5A | nopImp7A | nopImpDA | nop | nopImpFA =>
    exact ⟨.mNOP, by simp, ImpliedOf.nop.within⟩
  | nopImm80 | nopImm82 | nopImm89 | nopImmC2 | nopImmE2 => exact ⟨.mNOP, by simp, ReadOf.nop.within_imm⟩
  | aslZp | aslAbs | aslZpX | aslAbsX => exact ⟨.mASL, by simp, RmwOf.asl.within⟩
  | aslAcc => exact ⟨.mASL, by simp, AccOf.asl.within⟩
  | php => exact ⟨.mPHP, by simp, ImpliedOf.php.within⟩
  | ancImm0B | ancImm2B => exact ⟨.mANC, by simp, ReadOf.anc.within_imm⟩
  | bpl => exact ⟨.mBPL, by simp, within_branch⟩
  | clc => exact ⟨.mCLC, by simp, ImpliedOf.clc.within⟩
  | jsrAbs => exact ⟨.mJSR, by simp, within_jsr⟩
  | andIndX | andZp | andAbs | andIndY | andZpX | andAbsY | andAbsX => exact ⟨.mAND, by simp, ReadOf.and.within_read⟩
  | andImm => exact ⟨.mAND, by simp, ReadOf.and.within_imm⟩
  | rlaIndX | rlaZp | rlaAbs | rlaIndY | rlaZpX | rlaAbsY | rlaAbsX => exact ⟨.mRLA, by simp, RmwOf.rla.within⟩
  | bitZp | bitAbs => exact ⟨.mBIT, by simp, ReadOf.bit.within_read⟩
  | rolZp | rolAbs | rolZpX | rolAbsX => exact ⟨.mROL, by simp, RmwOf.rol.within⟩
  | rolAcc => exact ⟨.mROL, by simp, AccOf.rol.within⟩
  | plp => exact ⟨.mPLP, by simp, ImpliedOf.plp.within⟩
  | bmi => exact ⟨.mBMI, by simp, within_branch⟩
  | sec => exact ⟨.mSEC, by simp, ImpliedOf.sec.within⟩
  | rti => exact ⟨.mRTI, by simp, ImpliedOf.rti.within⟩
  | eorIndX | eorZp | eorAbs | eorIndY | eorZpX | eorAbsY | eorAbsX => exact ⟨.mEOR, by simp, ReadOf.eor.within_read⟩
  | eorImm => exact ⟨.mEOR, by simp, ReadOf.eor.within_imm⟩
  | sreIndX | sreZp | sreAbs | sreIndY | sreZpX | sreAbsY | sreAbsX => exact ⟨.mSRE, by simp, RmwOf.sre.within⟩
  | lsrZp | lsrAbs | lsrZpX | lsrAbsX => exact ⟨.mLSR, by simp, RmwOf.lsr.within⟩
  | lsrAcc => exact ⟨.mLSR, by simp, AccOf.lsr.within⟩
  | pha => exact ⟨.mPHA, by simp, ImpliedOf.pha.within⟩
  | alrImm => exact ⟨.mALR, by simp, ReadOf.alr.within_imm⟩
  | jmpAbs => exact ⟨.mJMP, by simp, within_jmp⟩
  | jmpInd => exact ⟨.mJMP, by simp, within_jmpInd⟩
  | bvc => exact ⟨.mBVC, by simp, within_branch⟩
  | cli => exact ⟨.mCLI, by simp, ImpliedOf.cli.within⟩
  | rts => exact ⟨.mRTS, by simp, ImpliedOf.rts.within⟩
  | adcIndX | adcZp | adcAbs | adcIndY | adcZpX | adcAbsY | adcAbsX => exact ⟨.mADC, by simp, ReadOf.adc.within_read⟩
  | adcImm => exact ⟨.mADC, by simp, ReadOf.adc.within_imm⟩
  | rraIndX | rraZp | rraAbs | rraIndY | rraZpX | rraAbsY | rraAbsX => exact ⟨.mRRA, by simp, RmwOf.rra.within⟩
  | rorZp | rorAbs | rorZpX | rorAbsX => exact ⟨.mROR, by simp, RmwOf.ror.within⟩
  | rorAcc => exact ⟨.mROR, by simp, AccOf.ror.within⟩
  | pla => exact ⟨.mPLA, by simp, ImpliedOf.pla.within⟩
  | arrImm => exact ⟨.mARR, by simp, ReadOf.arr.within_imm⟩
  | bvs => exact ⟨.mBVS, by simp, within_branch⟩
  | sei => exact ⟨.mSEI, by simp, ImpliedOf.sei.within⟩
  | staIndX | staZp | staAbs | staIndY | staZpX | staAbsY | staAbsX => exact ⟨.mSTA, by simp, within_store rfl⟩
  | saxIndX | saxZp | saxAbs | saxZpY => exact ⟨.mSAX, by simp, within_store rfl⟩
  | styZp | styAbs | styZpX => exact ⟨.mSTY, by simp, within_store rfl⟩
  | stxZp | stxAbs | stxZpY => exact ⟨.mSTX, by simp, within_store rfl⟩
  | dey => exact ⟨.mDEY, by simp, ImpliedOf.dey.within⟩
  | txa => exact ⟨.mTXA, by simp, ImpliedOf.txa.within⟩
  | xaaImm => exact ⟨.mXAA, by simp, ReadOf.xaa.within_imm.unstable⟩
  | bcc => exact ⟨.mBCC, by simp, within_branch⟩
  | ahxIndY | ahxAbsY => exact ⟨.mAHX, by simp, HighOf.ahx.within.unstable⟩
  | tya => exact ⟨.mTYA, by simp, ImpliedOf.tya.within⟩
  | txs => exact ⟨.mTXS, by simp, ImpliedOf.txs.within⟩
  | tasAbsY => exact ⟨.mTAS, by simp, HighOf.tas.within.unstable⟩
  | shyAbsX => exact ⟨.mSHY, by simp, HighOf.shy.within.unstable⟩
  | shxAbsY => exact ⟨.mSHX, by simp, HighOf.shx.within.unstable⟩
  | ldyImm => exact ⟨.mLDY, by simp, ReadOf.ldy.within_imm⟩
  | ldyZp | ldyAbs | ldyZpX | ldyAbsX => exact ⟨.mLDY, by simp, ReadOf.ldy.within_read⟩
  | ldaIndX | ldaZp | ldaAbs | ldaIndY | ldaZpX | ldaAbsY | ldaAbsX => exact ⟨.mLDA, by simp, ReadOf.lda.within_read⟩
  | ldaImm => exact ⟨.mLDA, by simp, ReadOf.lda.within_imm⟩
  | ldxImm => exact ⟨.mLDX, by simp, ReadOf.ldx.within_imm⟩
  | ldxZp | ldxAbs | ldxZpY | ldxAbsY => exact ⟨.mLDX, by simp, ReadOf.ldx.within_read⟩
  | laxIndX | laxZp | laxAbs | laxIndY | laxZpY | laxAbsY => exact ⟨.mLAX, by simp, ReadOf.lax.within_read⟩
  | tay => exact ⟨.mTAY, by simp, ImpliedOf.tay.within⟩
  | tax => exact ⟨.mTAX, by simp, ImpliedOf.tax.within⟩
  | lxaImm => exact ⟨.mLXA, by simp, ReadOf.lxa.within_imm.unstable⟩
  | bcs => exact ⟨.mBCS, by simp, within_branch⟩
  | clv => exact ⟨.mCLV, by simp, ImpliedOf.clv.within⟩
  | tsx => exact ⟨.mTSX, by simp, ImpliedOf.tsx.within⟩
  | lasAbsY => exact ⟨.mLAS, by simp, ReadOf.las.within_read⟩
  | cpyImm => exact ⟨.mCPY, by simp, ReadOf.cpy.within_imm⟩
  | cpyZp | cpyAbs => exact ⟨.mCPY, by simp, ReadOf.cpy.within_read⟩
  | cmpIndX | cmpZp | cmpAbs | cmpIndY | cmpZpX | cmpAbsY | cmpAbsX => exact ⟨.mCMP, by simp, ReadOf.cmp.within_read⟩
  | cmpImm => exact ⟨.mCMP, by simp, ReadOf.cmp.within_imm⟩
  | dcpIndX | dcpZp | dcpAbs | dcpIndY | dcpZpX | dcpAbsY | dcpAbsX => exact ⟨.mDCP, by simp, RmwOf.dcp.within⟩
  | decZp | decAbs | decZpX | decAbsX => exact ⟨.mDEC, by simp, RmwOf.dec.within⟩
  | iny => exact ⟨.mINY, by simp, ImpliedOf.iny.within⟩
  | dex => exact ⟨.mDEX, by simp, ImpliedOf.dex.within⟩
  | axsImm => exact ⟨.mAXS, by simp, ReadOf.axs.within_imm⟩
  | bne => exact ⟨.mBNE, by simp, within_branch⟩
  | cld => exact ⟨.mCLD, by simp, ImpliedOf.cld.within⟩
  | cpxImm => exact ⟨.mCPX, by simp, ReadOf.cpx.within_imm⟩
  | cpxZp | cpxAbs => exact ⟨.mCPX, by simp, ReadOf.cpx.within_read⟩
  | sbcIndX | sbcZp | sbcAbs | sbcIndY | sbcZpX | sbcAbsY | sbcAbsX => exact ⟨.mSBC, by simp, ReadOf.sbc.within_read⟩
  | sbcImm | sbcImmEB => exact ⟨.mSBC, by simp, ReadOf.sbc.within_imm⟩
  | isbIndX | isbZp | isbAbs | isbIndY | isbZpX | isbAbsY | isbAbsX => exact ⟨.mISB, by simp, RmwOf.isb.within⟩
  | incZp | incAbs | incZpX | incAbsX => exact ⟨.mINC, by simp, RmwOf.inc.within⟩
  | inx => exact ⟨.mINX, by simp, ImpliedOf.inx.within⟩
  | beq => exact ⟨.mBEQ, by simp, within_branch⟩
  | sed => exact ⟨.mSED, by simp, ImpliedOf.sed.within⟩

theorem named_eq {i : Instr} {m : Mnemonic} (h : i.descriptor?.map Descriptor.mnemonic = some m)
    (ms : List Mnemonic) : named i ms = ms.contains m := by
  obtain ⟨d, hd, rfl⟩ := Option.map_eq_some_iff.1 h
  rw [named, hd]

/-! ## The statements -/

/-- Settles O6, from what every operation keeps. -/
theorem stepKeepsInvariant : Obligations.StepKeepsInvariant :=
  fun _ _ inv h => (Keeps.step h).inv inv

/-- Settles O40, from what every operation keeps. -/
theorem eventStreamsGrow : Obligations.EventStreamsGrow :=
  fun _ _ h => ⟨(Keeps.step h).pixels, (Keeps.step h).apuWrites, (Keeps.step h).controllerWrites,
    (Keeps.step h).oracleReads⟩

/-- Settles O41: each instruction runs within its mnemonic, whose writers' lists are the statement's. -/
theorem registerWriters : Obligations.RegisterWriters := by
  intro i s t h
  obtain ⟨m, hm, within⟩ := exec_within i
  have w := within h
  simp only [named_eq hm]
  have zn : znBystanders.contains m = true → rmwWriters.contains m = false → writesZN m = false := by
    intro bystander rmw
    rw [writesZN, bystander, rmw]
    rfl
  exact ⟨w.a.eq, w.x.eq, w.y.eq, w.sp.eq, w.c.eq, w.i.eq, w.d.eq, w.v.eq,
    fun b r => ⟨w.z.eq (zn b r), w.n.eq (zn b r)⟩, fun hw => ⟨w.bankSel.eq hw, w.stall.eq hw⟩, w.nmiPending,
    (Keeps.exec h).params⟩

end Sys2Proof.Machine
end

section
/-! Proofs of the statements of memory: the regions of the CPU bus and the video addresses, construction, the fetch over the
bus, what the read-modify-write instructions do, what leaves memory alone, and every way to stop. -/

namespace Sys2Proof.Machine

/-! ## The regions of the CPU bus -/

theorem unimplemented_iff (a : Word) : unimplemented a = true ↔ 0x4018 ≤ a.toNat ∧ a.toNat ≤ 0x5FFF := by
  simp [unimplemented]

/-- A read of 0x4000 to 0x4017 other than of 0x4014 is an oracle's answer, recorded (R91, R92). -/
theorem busRead_oracle {a : Word} (lo : 0x4000 ≤ a.toNat) (hi : a.toNat ≤ 0x4017) (ne : a.toNat ≠ 0x4014) (s : State) :
    ∃ r, busRead a s = .ok r (s.recordOracle a r) := by
  by_cases port : a.toNat = 0x4016 ∨ a.toNat = 0x4017
  · exact ⟨_, busRead_input port s⟩
  · exact ⟨_, busRead_apu lo (by omega) ne s⟩

/-- A PRG-ROM read inside the array gives its byte and changes nothing (R99, R100). -/
theorem busRead_prgRom {a : Word} (lo : 0x8000 ≤ a.toNat) {s : State} (inside : prgOffset s a < 16384 * s.cart.prgBanks) :
    busRead a s = .ok (s.cart.prgRom.read (prgOffset s a)) s := by
  rw [busRead_prg lo, prgRead, if_pos inside]

section Mapper
variable {s : State} {a : Word}

theorem prgOffset_nrom (h : s.cart.mapper = .nrom) : prgOffset s a = (a.toNat - 0x8000) % (16384 * s.cart.prgBanks) := by
  rw [prgOffset, h]

theorem prgOffset_uxrom_low (h : s.cart.mapper = .uxrom) (hi : a.toNat < 0xC000) :
    prgOffset s a = s.bankSel * 16384 + (a.toNat - 0x8000) := by
  rw [prgOffset, h]
  exact if_pos (by omega)

theorem prgOffset_uxrom_high (h : s.cart.mapper = .uxrom) (lo : 0xC000 ≤ a.toNat) :
    prgOffset s a = (s.cart.prgBanks - 1) * 16384 + (a.toNat - 0xC000) := by
  rw [prgOffset, h]
  exact if_neg (by omega)

theorem prgWrite_nrom (h : s.cart.mapper = .nrom) (v : Byte) : prgWrite v s = s := by
  rw [prgWrite, h]

theorem prgWrite_uxrom (h : s.cart.mapper = .uxrom) (v : Byte) :
    prgWrite v s = { s with bankSel := v.toNat % s.cart.prgBanks } := by
  rw [prgWrite, h]

/-- From 0xC000 on the offset is inside any PRG-ROM of at least one bank, whatever the bank register holds: mapper 2 has
its last bank there (R99, R100). -/
theorem prgOffset_lt_of_high (banks : 1 ≤ s.cart.prgBanks) (lo : 0xC000 ≤ a.toNat) :
    prgOffset s a < 16384 * s.cart.prgBanks := by
  have := a.isLt
  cases h : s.cart.mapper with
  | nrom => rw [prgOffset_nrom h]; exact Nat.mod_lt _ (by omega)
  | uxrom => rw [prgOffset_uxrom_high h lo]; omega

end Mapper

/-! ## Construction -/

/-- The cartridges R102 admits, in its own words. -/
theorem CartValue.mapper?_isSome (c : CartValue) : c.mapper?.isSome = true ↔
    ((c.mapperId = 0 ∧ (c.prgBanks = 1 ∨ c.prgBanks = 2)) ∨ (c.mapperId = 2 ∧ 1 ≤ c.prgBanks)) ∧
      (c.chrBanks = 0 ∨ c.chrBanks = 1) := by
  unfold CartValue.mapper?
  split_ifs with nrom uxrom
  · simp only [Option.isSome_some, true_iff]
    exact ⟨.inl ⟨nrom.1, nrom.2.1⟩, by omega⟩
  · simp only [Option.isSome_some, true_iff]
    exact ⟨.inr ⟨uxrom.1, uxrom.2.1⟩, by omega⟩
  · simp only [Option.isSome_none, Bool.false_eq_true, false_iff]
    rintro ⟨⟨id, banks⟩ | ⟨id, banks⟩, chr⟩
    · exact nrom ⟨id, banks, by omega⟩
    · exact uxrom ⟨id, banks, by omega⟩

/-- The reset vector of a cartridge with a bank is read without a fault (R550). -/
theorem busRead16_resetVector {s : State} (banks : 1 ≤ s.cart.prgBanks) : ∃ w, busRead16 0xFFFC s = .ok w s := by
  have vector (a : Word) (lo : 0xC000 ≤ a.toNat) : ∃ v, busRead a s = .ok v s :=
    ⟨_, busRead_prgRom (by omega) (prgOffset_lt_of_high banks lo)⟩
  obtain ⟨lo, hlo⟩ := vector 0xFFFC (by decide)
  obtain ⟨hi, hhi⟩ := vector (0xFFFC + 1) (by decide)
  exact ⟨wordOf hi lo, by rw [busRead16, hlo, Res.andThen_ok, hhi, Res.andThen_ok]⟩

/-! ## Video addresses -/

/-- `PalIndex` (R114): the entries whose index is a multiple of 4 repeat every 16 addresses, the others every 32. -/
theorem palIndex_eq (a : Nat) : palIndex a = if a % 4 = 0 then a % 16 else a % 32 := by
  unfold palIndex
  dsimp only
  split_ifs <;> omega

theorem mirrorIndex_horizontal (a : Nat) :
    mirrorIndex .horizontal a = (a - 0x2000) % 0x1000 / 0x400 / 2 * 1024 + (a - 0x2000) % 0x1000 % 0x400 := rfl

theorem mirrorIndex_vertical (a : Nat) :
    mirrorIndex .vertical a = (a - 0x2000) % 0x1000 / 0x400 % 2 * 1024 + (a - 0x2000) % 0x1000 % 0x400 := rfl

/-! ## Fetching -/

/-- Bytes that decode to one instruction, and no more, are an opcode and as many operand bytes as its format asks for
(R140, R141). -/
theorem bytes_of_decode {bytes : List Byte} {i : Instr} (h : decode bytes = .ok (i, [])) :
    (∃ op, bytes = [op] ∧ operandCount op = 0) ∨ (∃ op b1, bytes = [op, b1] ∧ operandCount op = 1) ∨
      ∃ op b1 b2, bytes = [op, b1, b2] ∧ operandCount op = 2 := by
  match bytes with
  | [] => exact nomatch h
  | op :: rest =>
    unfold operandCount
    unfold decode at h
    dsimp only at h
    split at h
    · rename_i shape
      cases h
      exact .inl ⟨op, rfl, by rw [shape]⟩
    · rename_i b1 _ shape
      cases h
      exact .inr (.inl ⟨op, b1, rfl, by rw [shape]⟩)
    · rename_i lo hi _ shape
      cases h
      exact .inr (.inr ⟨op, lo, hi, rfl, by rw [shape]⟩)
    · exact nomatch h
    · exact nomatch h

theorem fetchedInstr_of_decode {op b1 b2 : Byte} {bytes : List Byte} {i : Instr} (h : decode bytes = .ok (i, []))
    (e : bytes = [op, b1, b2].take (1 + operandCount op)) (s : State) : fetchedInstr op b1 b2 s = .ok i s := by
  rw [fetchedInstr, decodeBytes_of_decode h e]

/-- All that reads of consecutive bytes can answer without a fault: one byte read, then the rest. -/
theorem busReadBytes_succ_eq_ok {n : Nat} {a : Word} {b : Byte} {bytes : List Byte} {s t : State}
    (h : busReadBytes (n + 1) a s = .ok (b :: bytes) t) :
    ∃ u, busRead a s = .ok b u ∧ busReadBytes n (a + 1) u = .ok bytes t := by
  obtain ⟨c, u, hc, h⟩ := Res.andThen_eq_ok h
  obtain ⟨cs, w, hcs, h⟩ := Res.andThen_eq_ok h
  cases h
  exact ⟨u, hc, hcs⟩

theorem busReadBytes_zero_eq_ok {a : Word} {bytes : List Byte} {s t : State} (h : busReadBytes 0 a s = .ok bytes t) :
    t = s := by
  cases h
  rfl

/-- Where the bytes at PC, read over the bus, decode to one instruction, the fetch gives it, in the state those reads leave
(R125, R165). -/
theorem fetch_of_busReadBytes {s t : State} {i : Instr} {bytes : List Byte} (hd : decode bytes = .ok (i, []))
    (hr : busReadBytes bytes.length s.pc s = .ok bytes t) : fetch s = .ok i t := by
  obtain ⟨op, rfl, n⟩ | ⟨op, b1, rfl, n⟩ | ⟨op, b1, b2, rfl, n⟩ := bytes_of_decode hd
  · obtain ⟨u, hop, hr⟩ := busReadBytes_succ_eq_ok hr
    obtain rfl := busReadBytes_zero_eq_ok hr
    rw [fetch, hop, Res.andThen_ok, if_pos n, fetchedInstr_of_decode hd (by rw [n]; rfl)]
  · obtain ⟨u, hop, hr⟩ := busReadBytes_succ_eq_ok hr
    obtain ⟨x, hb1, hr⟩ := busReadBytes_succ_eq_ok hr
    obtain rfl := busReadBytes_zero_eq_ok hr
    rw [fetch, hop, Res.andThen_ok, if_neg (by omega), operandByte_of_ok hb1, Res.andThen_ok, if_pos n,
      fetchedInstr_of_decode hd (by rw [n]; rfl)]
  · obtain ⟨u, hop, hr⟩ := busReadBytes_succ_eq_ok hr
    obtain ⟨x, hb1, hr⟩ := busReadBytes_succ_eq_ok hr
    obtain ⟨y, hb2, hr⟩ := busReadBytes_succ_eq_ok hr
    obtain rfl := busReadBytes_zero_eq_ok hr
    have third : s.pc + 1 + 1 = s.pc + 2 := by bv_omega
    rw [third] at hb2
    rw [fetch, hop, Res.andThen_ok, if_neg (by omega), operandByte_of_ok hb1, Res.andThen_ok, if_neg (by omega), hb2,
      Res.andThen_ok, fetchedInstr_of_decode hd (by rw [n]; rfl)]

/-- A console step is its CPU step and the dots after it (R520). -/
theorem step_eq_withDots (s : State) : step s = withDots s.cycles (cpuStep s) := by
  unfold step consoleStep withDots
  cases cpuStep s <;> rfl

theorem RunsInstruction.step_eq {s : State} (h : RunsInstruction s) :
    step s = withDots s.cycles (instrStep s.dropInput) := by
  rw [step_eq_withDots, cpuStep_instr h.stall h.nmi h.irq]

/-! ## The frames of the reading instructions -/

/-- The operand byte of `i` in its frame: one CPU-bus read at its effective address, or its immediate byte (R146, R165). -/
def operandRead (i : Instr) (s : State) : Res Byte :=
  match memMode i with
  | some m => busRead (resolve m s).addr (afterFrame i s)
  | none => .ok (encode i).tail.headI (afterFrame i s)

/-- `i` reads its operand byte and runs `f` with it, in its frame (R165). -/
def IsRead (i : Instr) (f : Byte → State → State) : Prop :=
  ∀ s, exec i s = ((operandRead i s).andThen fun v t => .ok () (f v t)).toOutcome

theorem isRead_of_row {i : Instr} {n c x : Nat} {m : AddrMode} {f : Byte → State → State}
    (he : ∀ s, exec i s = readInstr n c x m f s) (hm : memMode i = some m)
    (hf : ∀ s, afterFrame i s = s.advance n (frameCycles c x (resolve m s))) : IsRead i f := by
  intro s
  rw [he, operandRead, hm, hf]
  rfl

theorem isRead_of_imm {i : Instr} {n c : Nat} {b : Byte} {f : Byte → State → State}
    (he : ∀ s, exec i s = immInstr n c f b s) (hb : (encode i).tail.headI = b) (hm : memMode i = none)
    (hf : ∀ s, afterFrame i s = s.advance n c) : IsRead i f := by
  intro s
  rw [he, operandRead, hm, hb, hf]
  rfl

section Forms
variable (b : Byte) (w : Word)

theorem ldaForms_isRead : ∀ i ∈ ldaForms b w, IsRead i loadA := by
  intro i hi
  fin_cases hi
  on_goal 3 => exact isRead_of_imm (fun _ => rfl) rfl (by simp) (by simp)
  all_goals exact isRead_of_row (fun _ => rfl) (by simp) (by simp)

theorem ldxForms_isRead : ∀ i ∈ ldxForms b w, IsRead i loadX := by
  intro i hi
  fin_cases hi
  on_goal 1 => exact isRead_of_imm (fun _ => rfl) rfl (by simp) (by simp)
  all_goals exact isRead_of_row (fun _ => rfl) (by simp) (by simp)

theorem ldyForms_isRead : ∀ i ∈ ldyForms b w, IsRead i loadY := by
  intro i hi
  fin_cases hi
  on_goal 1 => exact isRead_of_imm (fun _ => rfl) rfl (by simp) (by simp)
  all_goals exact isRead_of_row (fun _ => rfl) (by simp) (by simp)

theorem adcForms_isRead : ∀ i ∈ adcForms b w, IsRead i addM := by
  intro i hi
  fin_cases hi
  on_goal 3 => exact isRead_of_imm (fun _ => rfl) rfl (by simp) (by simp)
  all_goals exact isRead_of_row (fun _ => rfl) (by simp) (by simp)

theorem sbcForms_isRead : ∀ i ∈ sbcForms b w, IsRead i subM := by
  intro i hi
  fin_cases hi
  iterate 2 on_goal 3 => exact isRead_of_imm (fun _ => rfl) rfl (by simp) (by simp)
  all_goals exact isRead_of_row (fun _ => rfl) (by simp) (by simp)

theorem andForms_isRead : ∀ i ∈ andForms b w, IsRead i andAcc := by
  intro i hi
  fin_cases hi
  on_goal 3 => exact isRead_of_imm (fun _ => rfl) rfl (by simp) (by simp)
  all_goals exact isRead_of_row (fun _ => rfl) (by simp) (by simp)

theorem oraForms_isRead : ∀ i ∈ oraForms b w, IsRead i orAcc := by
  intro i hi
  fin_cases hi
  on_goal 3 => exact isRead_of_imm (fun _ => rfl) rfl (by simp) (by simp)
  all_goals exact isRead_of_row (fun _ => rfl) (by simp) (by simp)

theorem eorForms_isRead : ∀ i ∈ eorForms b w, IsRead i eorAcc := by
  intro i hi
  fin_cases hi
  on_goal 3 => exact isRead_of_imm (fun _ => rfl) rfl (by simp) (by simp)
  all_goals exact isRead_of_row (fun _ => rfl) (by simp) (by simp)

theorem cmpForms_isRead : ∀ i ∈ cmpForms b w, IsRead i cmpM := by
  intro i hi
  fin_cases hi
  on_goal 3 => exact isRead_of_imm (fun _ => rfl) rfl (by simp) (by simp)
  all_goals exact isRead_of_row (fun _ => rfl) (by simp) (by simp)

theorem cpxForms_isRead : ∀ i ∈ cpxForms b w, IsRead i cpxM := by
  intro i hi
  fin_cases hi
  on_goal 1 => exact isRead_of_imm (fun _ => rfl) rfl (by simp) (by simp)
  all_goals exact isRead_of_row (fun _ => rfl) (by simp) (by simp)

theorem cpyForms_isRead : ∀ i ∈ cpyForms b w, IsRead i cpyM := by
  intro i hi
  fin_cases hi
  on_goal 1 => exact isRead_of_imm (fun _ => rfl) rfl (by simp) (by simp)
  all_goals exact isRead_of_row (fun _ => rfl) (by simp) (by simp)

theorem bitForms_isRead : ∀ i ∈ bitForms b w, IsRead i bitM := by
  intro i hi
  fin_cases hi <;> exact isRead_of_row (fun _ => rfl) (by simp) (by simp)

theorem laxForms_isRead : ∀ i ∈ laxForms b w, IsRead i laxM := by
  intro i hi
  fin_cases hi <;> exact isRead_of_row (fun _ => rfl) (by simp) (by simp)

theorem readingNopForms_isRead : ∀ i ∈ readingNopForms b w, IsRead i nopM := by
  intro i hi
  fin_cases hi
  iterate 4 on_goal 13 => exact isRead_of_imm (fun _ => rfl) rfl (by simp) (by simp)
  on_goal 15 => exact isRead_of_imm (fun _ => rfl) rfl (by simp) (by simp)
  all_goals exact isRead_of_row (fun _ => rfl) (by simp) (by simp)

theorem lasAbsY_isRead : IsRead (.lasAbsY w) lasM :=
  isRead_of_row (fun _ => rfl) (memMode_lasAbsY w) (afterFrame_lasAbsY w)

end Forms

theorem operandRead_of_isSome {i : Instr} (hm : (memMode i).isSome = true) (s : State) :
    operandRead i s = busRead (operandAddr i s) (afterFrame i s) := by
  obtain ⟨m, hm⟩ := Option.isSome_iff_exists.1 hm
  rw [operandRead, operandAddr, hm]

/-! ## The read-modify-write instructions -/

/-- Every read-modify-write form has a memory operand. -/
theorem rmwForms_memMode (b : Byte) (w : Word) : ∀ i ∈ incForms b w ++ decForms b w ++ aslForms b w ++ lsrForms b w ++
    rolForms b w ++ rorForms b w ++ sloForms b w ++ rlaForms b w ++ sreForms b w ++ rraForms b w ++ dcpForms b w ++
    isbForms b w, (memMode i).isSome = true := by
  simp [incForms, decForms, aslForms, lsrForms, rolForms, rorForms, sloForms, rlaForms, sreForms, rraForms, dcpForms,
    isbForms]

/-- Where there is a memory operand, reading it is one CPU-bus read at the effective address. -/
theorem readsOperand_iff {i : Instr} (hm : (memMode i).isSome = true) (s t : State) (v : Byte) :
    ReadsOperand i s v t ↔ busRead (operandAddr i s) (afterFrame i s) = .ok v t := by
  obtain ⟨m, hm⟩ := Option.isSome_iff_exists.1 hm
  rw [ReadsOperand, operandAddr, hm]

theorem operandReadable_of_isSome {i : Instr} (hm : (memMode i).isSome = true) (s : State) :
    operandReadable i s = !unimplemented (operandAddr i s) := by
  obtain ⟨m, hm⟩ := Option.isSome_iff_exists.1 hm
  rw [operandReadable, operandAddr, hm]

theorem Keeps.afterFrame (i : Instr) (s : State) : Keeps s (Machine.afterFrame i s) := by
  unfold Machine.afterFrame
  split <;> exact Keeps.core rfl rfl rfl rfl rfl rfl rfl

/-- On a console with the invariant the read-modify-write frame is the shape `AllRmw`, once its handlers are in the shape's
words. -/
theorem IsRmw.allRmw {forms : List Instr} {modify : Byte → State → Byte × State} {after after' : Byte → State → State}
    {r : Byte → Bool → Byte} {carry : Byte → Bool → Bool} (rmw : ∀ i ∈ forms, IsRmw i modify after)
    (mem : ∀ i ∈ forms, (memMode i).isSome = true)
    (hf : ∀ v t, modify v t = (r v t.p.c, { t with p := { t.p with c := carry v t.p.c } }))
    (hg : ∀ v u, after v u = after' v u) {s : State} (inv : s.Inv) : AllRmw forms s r carry after' := by
  intro i hi readable store
  have frame : (Machine.afterFrame i s).Inv := (Keeps.afterFrame i s).inv inv
  obtain ⟨v, t, hr⟩ := busRead_ok frame.cart frame.bank (a := operandAddr i s)
    (by simpa [operandReadable_of_isSome (mem i hi)] using readable)
  have operand := (readsOperand_iff (mem i hi) s t v).2 hr
  have read : t.Inv := (Keeps.read hr).inv frame
  obtain ⟨u, hw⟩ := busWrite_ok (s := { t with p := { t.p with c := carry v t.p.c } }) read.cart read.bank
    (store v t operand)
  refine ⟨v, t, u, operand, hw, ?_⟩
  rw [rmw i hi s, hr, Res.andThen_ok, hf, hw, Res.andThen_ok, hg, Res.toOutcome_ok]

/-! ### The results in integers (R233, R244, R245) -/

theorem shiftLeft_or_bitAt (v : Byte) (c : Bool) : (v <<< 1) ||| bitAt c 0 = shiftedLeft v c := by
  revert v c
  decide

theorem shiftRight_or_bitAt (v : Byte) (c : Bool) : (v >>> 1) ||| bitAt c 7 = shiftedRight v c := by
  revert v c
  decide

theorem getLsbD_seven_eq (v : Byte) : v.getLsbD 7 = topBit v :=
  (BitVec.msb_eq_getLsbD_last v).symm.trans (BitVec.msb_eq_decide v)

theorem getLsbD_zero_eq (v : Byte) : v.getLsbD 0 = lowBit v := by
  simp [lowBit, BitVec.getLsbD, Nat.testBit_zero]

theorem asl_eq (v : Byte) (s : State) :
    asl v s = (shiftedLeft v false, { s with p := { s.p with c := topBit v } }) := by
  rw [asl, getLsbD_seven_eq, ← shiftLeft_or_bitAt v false]
  simp [bitAt, State.setC]

theorem lsr_eq (v : Byte) (s : State) :
    lsr v s = (shiftedRight v false, { s with p := { s.p with c := lowBit v } }) := by
  rw [lsr, getLsbD_zero_eq, ← shiftRight_or_bitAt v false]
  simp [bitAt, State.setC]

theorem rol_eq (v : Byte) (s : State) :
    rol v s = (shiftedLeft v s.p.c, { s with p := { s.p with c := topBit v } }) := by
  rw [rol, getLsbD_seven_eq, shiftLeft_or_bitAt, State.setC]

theorem ror_eq (v : Byte) (s : State) :
    ror v s = (shiftedRight v s.p.c, { s with p := { s.p with c := lowBit v } }) := by
  rw [ror, getLsbD_zero_eq, shiftRight_or_bitAt, State.setC]

theorem incV_eq (v : Byte) (s : State) : incV v s = (BitVec.ofNat 8 (v.toNat + 1), s) := by
  rw [incV, show v + 1 = BitVec.ofNat 8 (v.toNat + 1) by bv_omega]

theorem decV_eq (v : Byte) (s : State) : decV v s = (BitVec.ofNat 8 (v.toNat + 255), s) := by
  rw [decV, show v - 1 = BitVec.ofNat 8 (v.toNat + 255) by bv_omega]

/-- A shift of A in its frame: the byte the handler gives goes to A, with its Z and N, over the C it sets (R145, R166). -/
theorem exec_of_acc {i : Instr} {n c : Nat} {f : Byte → State → Byte × State} {s : State} {r : Byte} {carry : Bool}
    (he : exec i s = accInstr n c f s) (hi : afterFrame i s = s.advance n c)
    (hf : f s.a (s.advance n c) = (r, { s.advance n c with p := { s.p with c := carry } })) :
    exec i s = .next { afterFrame i s with a := r, p := { s.p.zn r with c := carry } } := by
  rw [he, hi, accInstr, hf]
  dsimp only
  rw [setZN_eq]
  rfl

/-! ## Stops on an operand -/

/-- An operand that cannot be read is a memory operand in the unimplemented region (R93). -/
theorem operandReadable_eq_false {i : Instr} {s : State} (h : operandReadable i s = false) :
    (memMode i).isSome = true ∧ unimplemented (operandAddr i s) = true := by
  unfold operandReadable at h
  unfold operandAddr
  split at h
  · rename_i m hm
    rw [hm]
    exact ⟨rfl, by simpa using h⟩
  · exact nomatch h

theorem IsRead.fault {i : Instr} {f : Byte → State → State} (read : IsRead i f) {s : State}
    (h : operandReadable i s = false) : exec i s = .fault (.notImplemented (operandAddr i s) (afterFrame i s)) := by
  obtain ⟨mem, region⟩ := operandReadable_eq_false h
  rw [read s, operandRead_of_isSome mem, busRead_unimplemented region, Res.andThen_stop, Res.toOutcome_stop]

theorem IsRmw.fault {i : Instr} {f : Byte → State → Byte × State} {g : Byte → State → State} (rmw : IsRmw i f g)
    {s : State} (h : operandReadable i s = false) :
    exec i s = .fault (.notImplemented (operandAddr i s) (afterFrame i s)) := by
  obtain ⟨-, region⟩ := operandReadable_eq_false h
  rw [rmw s, busRead_unimplemented region, Res.andThen_stop, Res.toOutcome_stop]

theorem IsStore.fault {i : Instr} {value : State → Byte} (store : IsStore i value) {s : State}
    (h : unimplemented (operandAddr i s) = true) :
    exec i s = .fault (.notImplemented (operandAddr i s) (afterFrame i s)) := by
  rw [store s, busWrite_unimplemented h, Res.toOutcome_stop]

/-! ## An OAM DMA from page 0x40 (R127, R416) -/

/-- The state after an OAM DMA has copied `bytes`, read from 0x4000 on. -/
def copiedFromPorts (bytes : List Byte) (s : State) : State := { s with
  draws := s.draws + bytes.length
  ppu := bytes.foldl (fun p d => p.writeOamData d) s.ppu
  out := { s.out with oracleReads := s.out.oracleReads ++ oracleRecord bytes } }

/-- One more byte is one more answer of an oracle, but for 0x4014. -/
theorem oracleRecord_concat {bytes : List Byte} (lt : bytes.length < 24) (r : Byte) :
    oracleRecord (bytes ++ [r]) = oracleRecord bytes ++
      (if bytes.length = 0x14 then [] else [(BitVec.ofNat 16 (0x4000 + bytes.length), r)]) := by
  have dma : BitVec.ofNat 16 (0x4000 + bytes.length) = 0x4014#16 ↔ bytes.length = 0x14 := by
    rw [← BitVec.toNat_inj, BitVec.toNat_ofNat, BitVec.toNat_ofNat]
    omega
  have lengths : ((List.range bytes.length).map fun k => BitVec.ofNat 16 (0x4000 + k)).length = bytes.length := by simp
  unfold oracleRecord
  rw [List.length_append, List.length_singleton, List.range_succ, List.map_append, List.zip_append lengths,
    List.filter_append]
  congr 1
  split_ifs with h
  · simp [h]
  · simpa using mt dma.1 h

/-- A read of 0x4000 + k, k below 24, takes a free value and, but for 0x4014, records it (R91, R92). -/
theorem busRead_port {k : Nat} (lt : k < 24) (s : State) : ∃ r, busRead (0x4000#16 + BitVec.ofNat 16 k) s =
    .ok r { s with
      draws := s.draws + 1
      out := { s.out with oracleReads :=
        s.out.oracleReads ++ if k = 0x14 then [] else [(BitVec.ofNat 16 (0x4000 + k), r)] } } := by
  have addr : (0x4000#16 + BitVec.ofNat 16 k).toNat = 0x4000 + k := by
    rw [BitVec.toNat_add, BitVec.toNat_ofNat, BitVec.toNat_ofNat]
    omega
  by_cases dma : k = 0x14
  · subst dma
    refine ⟨Config.draw s.draws, ?_⟩
    rw [if_pos rfl, List.append_nil]
    exact busRead_dma s
  · obtain ⟨r, read⟩ := busRead_oracle (a := 0x4000#16 + BitVec.ofNat 16 k) (by omega) (by omega) (by omega) s
    refine ⟨r, ?_⟩
    rw [read, if_neg dma, BitVec.ofNat_add]
    rfl

/-- One step of the copy, when `bytes` have been copied: the byte at the next port. -/
theorem dmaCopy_port {bytes : List Byte} (lt : bytes.length < 24) (n : Nat) (s : State) :
    ∃ r, dmaCopy 0x4000#16 (n + 1) bytes.length (copiedFromPorts bytes s) =
      dmaCopy 0x4000#16 n (bytes.length + 1) (copiedFromPorts (bytes ++ [r]) s) := by
  obtain ⟨r, read⟩ := busRead_port lt (copiedFromPorts bytes s)
  refine ⟨r, ?_⟩
  rw [dmaCopy, read, Res.andThen_ok]
  congr 1
  rw [copiedFromPorts, copiedFromPorts, oracleRecord_concat lt, List.foldl_append, List.length_append,
    ← List.append_assoc]
  rfl

/-- The first 24 bytes of page 0x40 are the APU's and the ports': the copy reads them one after the other. -/
theorem dmaCopy_ports {n : Nat} (le : n ≤ 24) (m : Nat) (s : State) : ∃ bytes : List Byte, bytes.length = n ∧
    dmaCopy 0x4000#16 (m + n) 0 s = dmaCopy 0x4000#16 m n (copiedFromPorts bytes s) := by
  induction n generalizing m with
  | zero => exact ⟨[], rfl, by simp [copiedFromPorts, oracleRecord]⟩
  | succ n ih =>
    obtain ⟨bytes, rfl, copied⟩ := ih (by omega) (m + 1)
    obtain ⟨r, next⟩ := dmaCopy_port (by omega) m s (bytes := bytes)
    refine ⟨bytes ++ [r], by simp, ?_⟩
    rw [← Nat.add_assoc, Nat.add_right_comm, copied, next]

/-- A copy whose first source byte is unimplemented stops there, with nothing changed (R93, R127). -/
theorem dmaCopy_unimplemented {base : Word} {i : Nat} (h : unimplemented (base + BitVec.ofNat 16 i) = true) (n : Nat)
    (s : State) : dmaCopy base (n + 1) i s = .stop (.notImplemented (base + BitVec.ofNat 16 i) s) := by
  rw [dmaCopy, busRead_unimplemented h, Res.andThen_stop]

theorem oamDma_stop {d : Byte} {s : State} {f : Fault} (h : dmaCopy (wordOf d 0) 256 0 s = .stop f) :
    oamDma d s = .stop f := by
  rw [oamDma, h, Res.andThen_stop]

/-- An OAM DMA from page 0x40 stops on its 25th read, at 0x4018. -/
theorem oamDma_page40 (s : State) : ∃ bytes : List Byte, bytes.length = 24 ∧
    oamDma 0x40 s = .stop (.notImplemented 0x4018 (copiedFromPorts bytes s)) := by
  obtain ⟨bytes, length, copied⟩ := dmaCopy_ports (Nat.le_refl 24) 232 s
  refine ⟨bytes, length, oamDma_stop ?_⟩
  exact copied.trans (dmaCopy_unimplemented (by decide) 231 _)

/-- An OAM DMA from a page of the unimplemented region stops on its first read. -/
theorem oamDma_unimplementedPage {d : Byte} (lo : 0x41 ≤ d.toNat) (hi : d.toNat ≤ 0x5F) (s : State) :
    oamDma d s = .stop (.notImplemented (BitVec.ofNat 16 (256 * d.toNat)) s) := by
  have first : wordOf d 0 + BitVec.ofNat 16 0 = BitVec.ofNat 16 (256 * d.toNat) := by
    apply BitVec.eq_of_toNat_eq
    rw [BitVec.toNat_add, wordOf_toNat, BitVec.toNat_ofNat, BitVec.toNat_ofNat]
    simp only [BitVec.ofNat_eq_ofNat, BitVec.toNat_ofNat]
    omega
  have region : unimplemented (wordOf d 0 + BitVec.ofNat 16 0) = true := by
    rw [unimplemented_iff, first, BitVec.toNat_ofNat]
    omega
  exact oamDma_stop (by rw [dmaCopy_unimplemented region, first])

/-! ## What leaves memory alone -/

/-- Where `o` answers a next state, CPU memory is the same. -/
def KeepsMemory (o : State → Outcome) : Prop := ∀ ⦃s t⦄, o s = .next t → SameMemory s t

section Frames
variable {n c x : Nat}

theorem impliedInstr_keepsMemory {f : State → State} (hf : ∀ s, SameMemory s (f s)) :
    KeepsMemory (impliedInstr n c f) := by
  intro s t h
  injection h with h
  subst h
  exact (advance_registersOnly s n c).sameMemory.trans (hf _)

theorem immInstr_keepsMemory {f : Byte → State → State} {b : Byte} (hf : ∀ v s, SameMemory s (f v s)) :
    KeepsMemory (immInstr n c f b) :=
  impliedInstr_keepsMemory (hf b)

theorem readInstr_keepsMemory {m : AddrMode} {f : Byte → State → State} (hf : ∀ v s, SameMemory s (f v s)) :
    KeepsMemory (readInstr n c x m f) := by
  intro s t h
  obtain ⟨v, u, hr, rfl⟩ := readInstr_eq_next h
  exact (advance_registersOnly s n _).sameMemory.trans ((busRead_sameMemory hr).trans (hf v u))

theorem accInstr_keepsMemory {f : Byte → State → Byte × State} (hf : ModifyOp f) : KeepsMemory (accInstr n c f) := by
  intro s t h
  injection h with h
  subst h
  exact (advance_registersOnly s n c).sameMemory.trans
    ((hf.registersOnly s.a _).sameMemory.trans ⟨rfl, rfl, rfl, rfl⟩)

theorem branchInstr_keepsMemory {cond : State → Bool} {off : Int} :
    KeepsMemory fun s => branchInstr n c (cond s) off s := by
  intro s t h
  dsimp only [branchInstr] at h
  split at h <;> injection h with h <;> subst h <;> exact ⟨rfl, rfl, rfl, rfl⟩

theorem execJmpAbs_keepsMemory {addr : Word} : KeepsMemory (execJmpAbs addr) := by
  intro s t h
  injection h with h
  subst h
  exact ⟨rfl, rfl, rfl, rfl⟩

theorem execJmpInd_keepsMemory {addr : Word} : KeepsMemory (execJmpInd addr) := by
  intro s t h
  obtain ⟨target, u, hr, h⟩ := Res.andThen_eq_ok (Res.toOutcome_eq_next h)
  injection h with _ h
  subst h
  obtain ⟨_, _, _, hlo, hhi, -⟩ := busReadPtrWrap_eq_ok hr
  exact (busRead_sameMemory hlo).trans ((busRead_sameMemory hhi).trans ⟨rfl, rfl, rfl, rfl⟩)

theorem jamInstr_keepsMemory : KeepsMemory (jamInstr n c) := fun _ _ h => nomatch h

theorem KeepsMemory.unstable {o : State → Outcome} (h : KeepsMemory o) {op : Byte} :
    KeepsMemory (unstableInstr op o) :=
  fun _ _ hn => h (unstableInstr_eq_next hn)

end Frames

/-- Every instruction stores by its mnemonic, pushes, or leaves CPU memory as it was. -/
theorem stores_or_keepsMemory (i : Instr) :
    named i memoryWriters = true ∨ named i stackWriters = true ∨ KeepsMemory (exec i) := by
  cases i with
  | sloIndX | aslZp | sloZp | aslAbs | sloAbs | sloIndY | aslZpX | sloZpX | sloAbsY | aslAbsX | sloAbsX | rlaIndX
  | rolZp | rlaZp | rolAbs | rlaAbs | rlaIndY | rolZpX | rlaZpX | rlaAbsY | rolAbsX | rlaAbsX | sreIndX | lsrZp
  | sreZp | lsrAbs | sreAbs | sreIndY | lsrZpX | sreZpX | sreAbsY | lsrAbsX | sreAbsX | rraIndX | rorZp | rraZp
  | rorAbs | rraAbs | rraIndY | rorZpX | rraZpX | rraAbsY | rorAbsX | rraAbsX | staIndX | saxIndX | styZp | staZp
  | stxZp | saxZp | styAbs | staAbs | stxAbs | saxAbs | staIndY | ahxIndY | styZpX | staZpX | stxZpY | saxZpY
  | staAbsY | tasAbsY | shyAbsX | staAbsX | shxAbsY | ahxAbsY | dcpIndX | decZp | dcpZp | decAbs | dcpAbs
  | dcpIndY | decZpX | dcpZpX | dcpAbsY | decAbsX | dcpAbsX | isbIndX | incZp | isbZp | incAbs | isbAbs | isbIndY
  | incZpX | isbZpX | isbAbsY | incAbsX | isbAbsX | aslAcc | rolAcc | lsrAcc | rorAcc =>
    exact .inl (by simp [named, memoryWriters])
  | brk | php | jsrAbs | pha => exact .inr (.inl (by simp [named, stackWriters]))
  | clc | nopImp1A | plp | sec | nopImp3A | rti | cli | nopImp5A | rts | pla | sei | nopImp7A | dey | txa | tya
  | txs | tay | tax | clv | tsx | iny | dex | cld | nopImpDA | inx | nop | sed | nopImpFA =>
    exact .inr (.inr (impliedInstr_keepsMemory fun _ => ⟨rfl, rfl, rfl, rfl⟩))
  | oraImm | ancImm0B | andImm | ancImm2B | eorImm | alrImm | adcImm | arrImm | nopImm80 | nopImm82 | nopImm89
  | ldyImm | ldxImm | ldaImm | cpyImm | nopImmC2 | cmpImm | axsImm | cpxImm | nopImmE2 | sbcImm | sbcImmEB =>
    exact .inr (.inr (immInstr_keepsMemory fun _ _ => ⟨rfl, rfl, rfl, rfl⟩))
  | xaaImm =>
    exact .inr (.inr (.unstable (immInstr_keepsMemory fun v s => (ReadOp.xaa.registersOnly v s).sameMemory)))
  | lxaImm =>
    exact .inr (.inr (.unstable (immInstr_keepsMemory fun v s => (ReadOp.lxa.registersOnly v s).sameMemory)))
  | oraIndX | nopZp04 | oraZp | nopAbs | oraAbs | oraIndY | nopZpX14 | oraZpX | oraAbsY | nopAbsX1C | oraAbsX
  | andIndX | bitZp | andZp | bitAbs | andAbs | andIndY | nopZpX34 | andZpX | andAbsY | nopAbsX3C | andAbsX
  | eorIndX | nopZp44 | eorZp | eorAbs | eorIndY | nopZpX54 | eorZpX | eorAbsY | nopAbsX5C | eorAbsX | adcIndX
  | nopZp64 | adcZp | adcAbs | adcIndY | nopZpX74 | adcZpX | adcAbsY | nopAbsX7C | adcAbsX | ldaIndX | laxIndX
  | ldyZp | ldaZp | ldxZp | laxZp | ldyAbs | ldaAbs | ldxAbs | laxAbs | ldaIndY | laxIndY | ldyZpX | ldaZpX
  | ldxZpY | laxZpY | ldaAbsY | lasAbsY | ldyAbsX | ldaAbsX | ldxAbsY | laxAbsY | cmpIndX | cpyZp | cmpZp
  | cpyAbs | cmpAbs | cmpIndY | nopZpXD4 | cmpZpX | cmpAbsY | nopAbsXDC | cmpAbsX | sbcIndX | cpxZp | sbcZp
  | cpxAbs | sbcAbs | sbcIndY | nopZpXF4 | sbcZpX | sbcAbsY | nopAbsXFC | sbcAbsX =>
    exact .inr (.inr (readInstr_keepsMemory fun _ _ => ⟨rfl, rfl, rfl, rfl⟩))
  | bpl | bmi | bvc | bvs | bcc | bcs | bne | beq => exact .inr (.inr branchInstr_keepsMemory)
  | jmpAbs => exact .inr (.inr execJmpAbs_keepsMemory)
  | jmpInd => exact .inr (.inr execJmpInd_keepsMemory)
  | jam02 | jam12 | jam22 | jam32 | jam42 | jam52 | jam62 | jam72 | jam92 | jamB2 | jamD2 | jamF2 =>
    exact .inr (.inr jamInstr_keepsMemory)

/-! ## Every way to stop -/

/-- The faults a console with the invariant can raise (R93, R325). -/
def ListedFault (f : Fault) : Prop :=
  (∃ a t, f = .notImplemented a t ∧ 0x4018 ≤ a.toNat ∧ a.toNat ≤ 0x5FFF) ∨ ∃ pc t, f = .jam pc t

theorem ListedFault.of_unimplemented {a : Word} {s : State} (h : unimplemented a = true) :
    ListedFault (.notImplemented a s) :=
  .inl ⟨a, s, rfl, (unimplemented_iff a).1 h⟩

/-- Which state a fault keeps does not matter here. -/
theorem ListedFault.keep {f : Fault} (h : ListedFault f) (s : State) : ListedFault (f.keep s) := by
  obtain ⟨a, t, rfl, region⟩ | ⟨pc, t, rfl⟩ := h
  · exact .inl ⟨a, s, rfl, region⟩
  · exact .inr ⟨pc, s, rfl⟩

/-- A CPU-bus read stops in the unimplemented region only: the PRG-ROM offset is inside its array. -/
theorem ListedFault.read {a : Word} {s : State} {f : Fault} (inv : s.Inv) (h : busRead a s = .stop f) :
    ListedFault f := by
  obtain ⟨rfl, region⟩ | ⟨-, lo, outside⟩ := busRead_stop h
  · exact .of_unimplemented region
  · exact absurd (prgOffset_lt inv.cart inv.bank lo) (by omega)

/-- Two reads making a word. -/
theorem ListedFault.readPair {a b : Word} {s : State} {f : Fault} (inv : s.Inv)
    (h : ((busRead a s).andThen fun lo t => (busRead b t).andThen fun hi u => .ok (wordOf hi lo) u) = .stop f) :
    ListedFault f := by
  obtain hlo | ⟨lo, t, hlo, h⟩ := Res.andThen_eq_stop h
  · exact .read inv hlo
  obtain hhi | ⟨hi, u, -, h⟩ := Res.andThen_eq_stop h
  · exact .read ((Keeps.read hlo).inv inv) hhi
  · exact nomatch h

theorem ListedFault.dma {base : Word} {n i : Nat} {s : State} {f : Fault} (inv : s.Inv)
    (h : dmaCopy base n i s = .stop f) : ListedFault f := by
  induction n generalizing i s with
  | zero => exact nomatch h
  | succ n ih =>
    obtain hr | ⟨v, t, hr, h⟩ := Res.andThen_eq_stop h
    · exact .read inv hr
    · exact ih (((Keeps.read hr).trans (Keeps.oamWrite t v)).inv inv) h

/-- A CPU-bus write stops in the unimplemented region, or on the read of an OAM DMA. -/
theorem ListedFault.write {a : Word} {v : Byte} {s : State} {f : Fault} (inv : s.Inv) (h : busWrite a v s = .stop f) :
    ListedFault f := by
  by_cases region : unimplemented a = true
  · rw [busWrite_unimplemented region] at h
    injection h with h
    subst h
    exact .of_unimplemented region
  by_cases dma : a = 0x4014
  · subst dma
    rw [busWrite_dma] at h
    obtain h | ⟨_, t, -, h⟩ := Res.andThen_eq_stop h
    · exact .dma inv h
    · exact nomatch h
  · obtain ⟨t, ok⟩ := busWrite_ok inv.cart inv.bank
      (storable_of_ne (by simpa using region) (by simpa using dma) v)
    rw [ok] at h
    exact nomatch h

theorem ListedFault.enter {brk : Bool} {vector : Word} {s : State} {f : Fault} (inv : s.Inv)
    (h : enterInterrupt brk vector s = .stop f) : ListedFault f := by
  have pushed : Keeps s (((s.push16 s.pc).push (s.p.pack brk)).setI true) :=
    (Keeps.push16 s _).trans ((Keeps.push _ _).trans (Keeps.setI _ _))
  obtain h | ⟨w, u, -, h⟩ := Res.andThen_eq_stop h
  · exact .readPair (pushed.inv inv) h
  · exact nomatch h

theorem ListedFault.interrupt {vector : Word} {s : State} {f : Fault} (inv : s.Inv)
    (h : takeInterrupt vector s = .stop f) : ListedFault f := by
  obtain h | ⟨_, u, -, h⟩ := Res.andThen_eq_stop h
  · exact .enter inv h
  · exact nomatch h

/-- An unstable opcode that faults runs its formula (R332). -/
theorem unstableInstr_eq_fault {op : Byte} {o : State → Outcome} {s : State} {f : Fault}
    (h : unstableInstr op o s = .fault f) : o s = .fault f := by
  unfold unstableInstr at h
  split at h
  · exact nomatch h
  · exact h

/-- An unstable opcode that refuses is refused itself, or its formula refuses. -/
theorem unstableInstr_eq_refused {op : Byte} {o : State → Outcome} {s : State} {r : Refusal}
    (h : unstableInstr op o s = .refused r) :
    s.params.unstable = .refuse ∧ r = .unstableOpcode op ∨ o s = .refused r := by
  unfold unstableInstr at h
  split at h
  · rename_i refuse
    injection h with h
    exact .inl ⟨refuse, h.symm⟩
  · exact .inr h

/-- Every frame stops on its bus accesses only, but for a JAM. -/
theorem ListedFault.form {o : State → Outcome} (form : ExecForm o) {s : State} {f : Fault} (inv : s.Inv)
    (h : o s = .fault f) : ListedFault f := by
  have framed (n c : Nat) : (s.advance n c).Inv := (Keeps.advance s n c).inv inv
  induction form with
  | implied | imm | acc | jmp | jsr => exact nomatch h
  | read n c x m _ _ =>
    obtain h | ⟨v, t, -, h⟩ := Res.andThen_eq_stop (Res.toOutcome_eq_fault h)
    · exact .read (framed n _) h
    · exact nomatch h
  | store n c m _ _ => exact .write (framed n c) (Res.toOutcome_eq_fault h)
  | rmw n c m _ modify _ =>
    obtain h | ⟨v, t, hr, h⟩ := Res.andThen_eq_stop (Res.toOutcome_eq_fault h)
    · exact .read (framed n c) h
    obtain h | ⟨_, u, -, h⟩ := Res.andThen_eq_stop h
    · exact .write (((Keeps.read hr).trans (modify.registersOnly v t).keeps).inv (framed n c)) h
    · exact nomatch h
  | high n c m _ op => exact .write ((op.registersOnly _ _).keeps.inv (framed n c)) (Res.toOutcome_eq_fault h)
  | branch cond off =>
    dsimp only [branchInstr] at h
    split at h <;> exact nomatch h
  | jmpInd addr =>
    obtain h | ⟨_, t, -, h⟩ := Res.andThen_eq_stop (Res.toOutcome_eq_fault h)
    · exact .readPair inv h
    · exact nomatch h
  | brk => exact .enter (framed 2 7) (Res.toOutcome_eq_fault h)
  | jam =>
    injection h with h
    exact .inr ⟨_, _, h.symm⟩
  | unstable op _ _ ih => exact ih (unstableInstr_eq_fault h)

theorem ListedFault.operand {op : Byte} {a : Word} {s : State} {f : Fault} (inv : s.Inv)
    (h : operandByte op a s = .stop f) : ListedFault f := by
  unfold operandByte at h
  split at h
  · exact nomatch h
  · rename_i g hr
    have listed : ListedFault g := .read inv hr
    split_ifs at h <;> injection h with h <;> subst h
    · exact listed.keep _
    · exact listed

theorem fetchedInstr_ne_stop {op b1 b2 : Byte} {s : State} {f : Fault} : fetchedInstr op b1 b2 s ≠ .stop f := by
  obtain ⟨i, -, hi⟩ := fetchedInstr_ok op b1 b2 s
  rw [hi]
  exact nofun

theorem ListedFault.fetch {s : State} {f : Fault} (inv : s.Inv) (h : Machine.fetch s = .stop f) : ListedFault f := by
  obtain h | ⟨op, t, hop, h⟩ := Res.andThen_eq_stop h
  · exact .read inv h
  have opcode : t.Inv := (Keeps.read hop).inv inv
  split at h
  · exact absurd h fetchedInstr_ne_stop
  obtain h | ⟨b1, u, hb1, h⟩ := Res.andThen_eq_stop h
  · exact .operand opcode h
  have first : u.Inv := (Keeps.operandByte hb1).inv opcode
  split at h
  · exact absurd h fetchedInstr_ne_stop
  obtain h | ⟨b2, w, -, h⟩ := Res.andThen_eq_stop h
  · exact .read first h
  · exact absurd h fetchedInstr_ne_stop

theorem ListedFault.instrStep {s : State} {f : Fault} (inv : s.Inv) (h : Machine.instrStep s = .fault f) :
    ListedFault f := by
  unfold Machine.instrStep at h
  split at h
  · rename_i i t hf
    exact .form (exec_form i) ((Keeps.fetch hf).inv inv) h
  · rename_i g hf
    injection h with h
    subst h
    exact .fetch inv hf

theorem ListedFault.cpuStep {s : State} {f : Fault} (inv : s.Inv) (h : Machine.cpuStep s = .fault f) :
    ListedFault f := by
  have input : s.dropInput.Inv := (dropInput_registersOnly s).keeps.inv inv
  unfold Machine.cpuStep at h
  split_ifs at h
  · exact .interrupt ((clearNmi_registersOnly _).keeps.inv input) (Res.toOutcome_eq_fault h)
  · exact .interrupt input (Res.toOutcome_eq_fault h)
  · exact .instrStep input h

/-! ## Every refusal -/

/-- The refusal of one of the seven unstable opcodes, in a state whose parameter is `refuse` (R332). -/
def ListedRefusal (s : State) (r : Refusal) : Prop :=
  s.params.unstable = .refuse ∧ ∃ op ∈ [0x8B#8, 0xAB#8, 0x93#8, 0x9F#8, 0x9B#8, 0x9C#8, 0x9E#8], r = .unstableOpcode op

theorem Res.toOutcome_ne_refused {r : Res Unit} {e : Refusal} : r.toOutcome ≠ .refused e := by
  cases r <;> exact nofun

/-- Only the frame of the unstable opcodes refuses. -/
theorem ListedRefusal.form {o : State → Outcome} (form : ExecForm o) {s : State} {r : Refusal}
    (h : o s = .refused r) : ListedRefusal s r := by
  induction form with
  | implied | imm | acc | jmp | jsr | jam => exact nomatch h
  | read | store | rmw | high | jmpInd | brk => exact absurd h Res.toOutcome_ne_refused
  | branch cond off =>
    dsimp only [branchInstr] at h
    split at h <;> exact nomatch h
  | unstable op mem _ ih =>
    obtain ⟨refuse, rfl⟩ | h := unstableInstr_eq_refused h
    · exact ⟨refuse, op, mem, rfl⟩
    · exact ih h

theorem ListedRefusal.cpuStep {s : State} {r : Refusal} (h : Machine.cpuStep s = .refused r) : ListedRefusal s r := by
  unfold Machine.cpuStep at h
  split_ifs at h
  · exact absurd h Res.toOutcome_ne_refused
  · exact absurd h Res.toOutcome_ne_refused
  · unfold Machine.instrStep at h
    split at h
    · rename_i i t hf
      obtain ⟨refuse, listed⟩ := ListedRefusal.form (exec_form i) h
      rw [(Keeps.fetch hf).params] at refuse
      exact ⟨refuse, listed⟩
    · exact nomatch h

/-- The dots neither stop nor refuse: what a step stops with, its CPU step does (R503). -/
theorem step_eq_fault {s : State} {f : Fault} (h : step s = .fault f) : cpuStep s = .fault f := by
  rw [step_eq_withDots] at h
  generalize cpuStep s = o at h ⊢
  cases o with
  | next => exact nomatch h
  | fault => exact h
  | refused => exact nomatch h

theorem step_eq_refused {s : State} {r : Refusal} (h : step s = .refused r) : cpuStep s = .refused r := by
  rw [step_eq_withDots] at h
  generalize cpuStep s = o at h ⊢
  cases o with
  | next => exact nomatch h
  | fault => exact nomatch h
  | refused => exact h

/-- JMP indirect stops at an unimplemented pointer, before PC moves (R165, log entry 7). -/
theorem exec_jmpInd_unimplemented {w : Word} (h : unimplemented w = true) (s : State) :
    exec (.jmpInd w) s = .fault (.notImplemented w s) := by
  show execJmpInd w s = _
  rw [execJmpInd, busReadPtrWrap, busRead_unimplemented h]
  rfl

/-- The pointer 0x4017 has its second byte at 0x4018, after an oracle's answer to the first. -/
theorem exec_jmpInd_unimplemented_second (s : State) :
    ∃ lo, exec (.jmpInd 0x4017) s = .fault (.notImplemented 0x4018 (s.recordOracle 0x4017 lo)) := by
  obtain ⟨lo, first⟩ := busRead_oracle (a := 0x4017) (by decide) (by decide) (by decide) s
  have second := busRead_unimplemented (a := 0x4018) (by decide) (s.recordOracle 0x4017 lo)
  refine ⟨lo, ?_⟩
  show execJmpInd 0x4017 s = _
  rw [execJmpInd, busReadPtrWrap, first, Res.andThen_ok,
    show wordOf (highByte 0x4017) (lowByte 0x4017 + 1) = 0x4018 by decide, second]
  rfl

/-! ## The statements -/

/-- Settles O3: the mappers admitted are R102's, and the vector's two bytes lie in any PRG-ROM with a bank. -/
theorem constructionAdmits : Obligations.ConstructionAdmits := by
  intro c o params irq
  rw [← CartValue.mapper?_isSome]
  refine ⟨fun admitted => ?_, fun refused => ?_⟩
  · obtain ⟨m, hm⟩ := Option.isSome_iff_exists.1 admitted
    obtain ⟨-, banks, -⟩ := CartValue.mapper?_eq_some hm
    obtain ⟨w, hw⟩ := busRead16_resetVector (s := beforeVector (c.insert m o.chrRam) o params irq) banks
    exact ⟨_, by simp only [construct, hm, hw]; rfl⟩
  · have none : c.mapper? = none := by simpa using refused
    rw [construct, none]

/-- Settles O12: the fetch makes the same bus reads. -/
theorem stepFetchesOverTheBus : Obligations.StepFetchesOverTheBus := by
  intro s t i bytes runs hd hr
  rw [runs.step_eq, instrStep, fetch_of_busReadBytes (s := s.dropInput) hd hr]

/-- Settles O18: RAM is indexed by the address modulo 0x800. -/
theorem ramMirrors : Obligations.RamMirrors := by
  intro s a b v wf ha hb
  refine ⟨s.writeRam a v, busWrite_ram ha v s, fun same => ?_, fun other => ?_⟩
  · rw [busRead_ram hb, State.writeRam_ram, show ramIndex b = ramIndex a from same, Cells.read_write_same wf]
  · refine ⟨_, busRead_ram hb s, ?_⟩
    rw [busRead_ram hb, State.writeRam_ram, Cells.read_write_other wf (show ramIndex b ≠ ramIndex a from other)]

/-- Settles O19: both accesses reach the region's own branch. -/
theorem unimplementedRegionFaults : Obligations.UnimplementedRegionFaults := by
  intro s a v lo hi
  have region := (unimplemented_iff a).2 ⟨lo, hi⟩
  exact ⟨busRead_unimplemented region s, busWrite_unimplemented region v s⟩

/-- Settles O20: PRG-RAM is indexed by the address from 0x6000 on. -/
theorem prgRamWindow : Obligations.PrgRamWindow := by
  intro s a b v wf alo ahi blo bhi
  have written : (s.prgRam.write (prgRamIndex a) v).read (prgRamIndex a) = v := Cells.read_write_same wf _ v
  refine ⟨s.writePrgRam a v, busWrite_prgRam alo ahi v s, rfl, written, ?_, fun ne => ?_⟩
  · rw [busRead_prgRam alo ahi, State.writePrgRam_prgRam, written]
  · have other : prgRamIndex b ≠ prgRamIndex a := fun e => ne (BitVec.eq_of_toNat_eq (by unfold prgRamIndex at e; omega))
    refine ⟨_, busRead_prgRam blo bhi s, ?_⟩
    rw [busRead_prgRam blo bhi, State.writePrgRam_prgRam, Cells.read_write_other wf other]

/-- Settles O21: the offset of each mapper is inside PRG-ROM. -/
theorem mapperWindow : Obligations.MapperWindow := by
  intro s a v inv lo
  have read := busRead_prgRom lo (prgOffset_lt inv.cart inv.bank lo)
  refine ⟨fun nrom => ⟨?_, ?_⟩, fun uxrom => ⟨fun low => ?_, fun high => ?_, ?_⟩⟩
  · rw [read, prgOffset_nrom nrom]
  · rw [busWrite_prg lo, prgWrite_nrom nrom]
  · rw [read, prgOffset_uxrom_low uxrom low]
  · rw [read, prgOffset_uxrom_high uxrom high]
  · rw [busWrite_prg lo, prgWrite_uxrom uxrom]

/-- Settles O22, by the region of the address. -/
theorem apuAndControllerAccesses : Obligations.ApuAndControllerAccesses := by
  intro s a v lo hi
  refine ⟨fun ne => busRead_oracle lo hi ne s, fun dma => ?_, fun n1 n2 => busWrite_apu lo hi n1 n2 v s, fun port => ?_⟩
  · obtain rfl : a = 0x4014 := BitVec.eq_of_toNat_eq dma
    exact ⟨_, busRead_dma s⟩
  · obtain rfl : a = 0x4016 := BitVec.eq_of_toNat_eq port
    exact busWrite_controller v s

/-- Settles O30: the two modes table by table, and the palette by its repeats. -/
theorem videoAddressAliases : Obligations.VideoAddressAliases := by
  refine ⟨fun off lt => ?_, fun m a lo hi => ?_, fun a b alo ahi blo bhi => ?_⟩
  · simp only [mirrorIndex_horizontal, mirrorIndex_vertical]
    omega
  · cases m
    · rw [mirrorIndex_horizontal, mirrorIndex_horizontal]; omega
    · rw [mirrorIndex_vertical, mirrorIndex_vertical]; omega
  · rw [palIndex_eq, palIndex_eq]
    split_ifs <;> omega

/-- Settles O17: each bus access of a step stops in the unimplemented region only, and each frame stops on its bus
accesses, on a JAM, or refuses as an unstable opcode. -/
theorem stopsOnlyAsListed : Obligations.StopsOnlyAsListed := by
  intro s inv
  refine ⟨fun f h => ListedFault.cpuStep inv (step_eq_fault h), fun r h => ?_⟩
  obtain ⟨refuse, op, mem, rfl⟩ := ListedRefusal.cpuStep (step_eq_refused h)
  exact ⟨refuse, by simpa using mem⟩

/-- Settles O42: an instruction that is no store and no push keeps memory, and so do the four shifts of A. -/
theorem nonStoringKeepsMemory : Obligations.NonStoringKeepsMemory := by
  intro i s t noPush noStore h
  have same : SameMemory s t := by
    obtain noStore | rfl | rfl | rfl | rfl := noStore
    · obtain store | push | keeps := stores_or_keepsMemory i
      · rw [noStore] at store; exact nomatch store
      · rw [noPush] at push; exact nomatch push
      · exact keeps h
    · exact accInstr_keepsMemory .asl h
    · exact accInstr_keepsMemory .lsr h
    · exact accInstr_keepsMemory .rol h
    · exact accInstr_keepsMemory .ror h
  exact ⟨same.ram, same.prgRam, same.peek⟩

/-- Settles O52: the handlers' bytes and flags are the statement's integers, in the frames of the forms. -/
theorem countsAndShifts : Obligations.CountsAndShifts := by
  intro b w s inv
  have mem := rmwForms_memMode b w
  simp only [List.forall_mem_append, and_assoc] at mem
  obtain ⟨inc, dec, asl', lsr', rol', ror', -⟩ := mem
  have zn (r : Byte) (u : State) : afterRmw r u = { u with p := u.p.zn r } := setZN_eq u r
  refine ⟨⟨?_, ?_, ?_, ?_, ?_, ?_⟩, ?_, ?_, ?_, ?_⟩
  · exact IsRmw.allRmw (incForms_isRmw b w) inc incV_eq zn inv
  · exact IsRmw.allRmw (decForms_isRmw b w) dec decV_eq zn inv
  · exact IsRmw.allRmw (aslForms_isRmw b w) asl' asl_eq zn inv
  · exact IsRmw.allRmw (lsrForms_isRmw b w) lsr' lsr_eq zn inv
  · exact IsRmw.allRmw (rolForms_isRmw b w) rol' rol_eq zn inv
  · exact IsRmw.allRmw (rorForms_isRmw b w) ror' ror_eq zn inv
  · exact exec_of_acc rfl (afterFrame_aslAcc s) (asl_eq _ _)
  · exact exec_of_acc rfl (afterFrame_lsrAcc s) (lsr_eq _ _)
  · exact exec_of_acc rfl (afterFrame_rolAcc s) (rol_eq _ _)
  · exact exec_of_acc rfl (afterFrame_rorAcc s) (ror_eq _ _)

/-- Settles O60: the forms by their frames, the pointer and the opcode byte by their first unimplemented read, and the
OAM DMA by the bytes of its page before it. -/
theorem unimplementedOperandFaults : Obligations.UnimplementedOperandFaults := by
  intro b w s
  refine ⟨?_, ?_, fun h => ?_, ?_, fun runs h => ?_, fun page => ?_, fun lo hi => ?_⟩
  · simp only [List.forall_mem_append, List.forall_mem_singleton, and_assoc]
    exact ⟨fun i hi => (ldaForms_isRead b w i hi).fault, fun i hi => (ldxForms_isRead b w i hi).fault,
      fun i hi => (ldyForms_isRead b w i hi).fault, fun i hi => (adcForms_isRead b w i hi).fault,
      fun i hi => (sbcForms_isRead b w i hi).fault, fun i hi => (andForms_isRead b w i hi).fault,
      fun i hi => (oraForms_isRead b w i hi).fault, fun i hi => (eorForms_isRead b w i hi).fault,
      fun i hi => (cmpForms_isRead b w i hi).fault, fun i hi => (cpxForms_isRead b w i hi).fault,
      fun i hi => (cpyForms_isRead b w i hi).fault, fun i hi => (bitForms_isRead b w i hi).fault,
      fun i hi => (laxForms_isRead b w i hi).fault, fun i hi => (readingNopForms_isRead b w i hi).fault,
      (lasAbsY_isRead w).fault, fun i hi => (incForms_isRmw b w i hi).fault,
      fun i hi => (decForms_isRmw b w i hi).fault, fun i hi => (aslForms_isRmw b w i hi).fault,
      fun i hi => (lsrForms_isRmw b w i hi).fault, fun i hi => (rolForms_isRmw b w i hi).fault,
      fun i hi => (rorForms_isRmw b w i hi).fault, fun i hi => (sloForms_isRmw b w i hi).fault,
      fun i hi => (rlaForms_isRmw b w i hi).fault, fun i hi => (sreForms_isRmw b w i hi).fault,
      fun i hi => (rraForms_isRmw b w i hi).fault, fun i hi => (dcpForms_isRmw b w i hi).fault,
      fun i hi => (isbForms_isRmw b w i hi).fault⟩
  · simp only [List.forall_mem_append, and_assoc]
    exact ⟨fun i hi => (staForms_isStore b w i hi).fault, fun i hi => (stxForms_isStore b w i hi).fault,
      fun i hi => (styForms_isStore b w i hi).fault, fun i hi => (saxForms_isStore b w i hi).fault⟩
  · exact exec_jmpInd_unimplemented h s
  · exact exec_jmpInd_unimplemented_second s
  · rw [runs.step_eq, instrStep, fetch, busRead_unimplemented (a := s.dropInput.pc) h]
    rfl
  · obtain rfl : b = 0x40 := BitVec.eq_of_toNat_eq page
    obtain ⟨bytes, length, stop⟩ := oamDma_page40 s
    refine ⟨bytes, length, ?_⟩
    rw [busWrite_dma, stop, copiedFromPorts, length]
  · rw [busWrite_dma, oamDma_unimplementedPage lo hi]

end Sys2Proof.Machine
end

section
/-! Proofs of the statements of encoding: decoding and encoding agree both ways, a step runs the instruction whose
bytes stand at PC, and what the loads, the stores, AND, ORA and EOR, the branches and the jumps do. -/

namespace Sys2Proof

/-! ## Formats -/

/-- In this format the operand bytes make `i` (R141). -/
def Shape.Makes (shape : Shape) (operand : List Byte) (i : Instr) : Prop :=
  match shape, operand with
  | .f1 j, [] => j = i
  | .f2 build, [b] => build b = i
  | .f3 build, [lo, hi] => build (wordOf hi lo) = i
  | _, _ => False

/-- Whatever operand bytes the format takes, what they make is well formed and encoded as `op` and those bytes. -/
def Shape.EncodesAs (shape : Shape) (op : Byte) : Prop :=
  match shape with
  | .f1 i => i.wellFormed = true ∧ encode i = [op]
  | .f2 build => ∀ b, (build b).wellFormed = true ∧ encode (build b) = [op, b]
  | .f3 build => ∀ w, (build w).wellFormed = true ∧ encode (build w) = [op, lowByte w, highByte w]
  | .none => True

/-- All the operand bytes that make an instruction: none, one or two, as the format asks. -/
theorem Shape.makes_cases {shape : Shape} {operand : List Byte} {i : Instr} (h : shape.Makes operand i) :
    (shape = .f1 i ∧ operand = []) ∨ (∃ build b, shape = .f2 build ∧ operand = [b] ∧ i = build b) ∨
      ∃ build lo hi, shape = .f3 build ∧ operand = [lo, hi] ∧ i = build (wordOf hi lo) := by
  unfold Shape.Makes at h
  split at h
  · exact .inl ⟨by rw [h], rfl⟩
  · exact .inr (.inl ⟨_, _, rfl, rfl, h.symm⟩)
  · exact .inr (.inr ⟨_, _, _, rfl, rfl, h.symm⟩)
  · exact h.elim

theorem Shape.EncodesAs.of_makes {shape : Shape} {op : Byte} {operand : List Byte} {i : Instr} (e : shape.EncodesAs op)
    (h : shape.Makes operand i) : i.wellFormed = true ∧ encode i = op :: operand := by
  obtain ⟨rfl, rfl⟩ | ⟨build, b, rfl, rfl, rfl⟩ | ⟨build, lo, hi, rfl, rfl, rfl⟩ := Shape.makes_cases h
  · exact e
  · exact e b
  · simpa using e (wordOf hi lo)

/-- The bytes an opcode's format takes decode to what they make, and the bytes after them are left (R140, R141). -/
theorem decode_of_makes {op : Byte} {operand : List Byte} {i : Instr} (h : (opcodeShape op).Makes operand i)
    (rest : List Byte) : decode (op :: operand ++ rest) = .ok (i, rest) := by
  obtain ⟨shape, rfl⟩ | ⟨build, b, shape, rfl, rfl⟩ | ⟨build, lo, hi, shape, rfl, rfl⟩ := Shape.makes_cases h
  · exact decode_f1 shape rest
  · exact decode_f2 shape b rest
  · exact decode_f3 shape lo hi rest

/-- All that decodes is an opcode byte and the operand bytes its format takes. -/
theorem makes_of_decode {bytes rest : List Byte} {i : Instr} (h : decode bytes = .ok (i, rest)) :
    ∃ op operand, bytes = op :: operand ++ rest ∧ (opcodeShape op).Makes operand i := by
  match bytes with
  | [] => exact nomatch h
  | op :: bytes =>
    unfold decode at h
    dsimp only at h
    split at h
    · rename_i hs
      cases h
      exact ⟨op, [], rfl, hs ▸ rfl⟩
    · rename_i b _ hs
      cases h
      exact ⟨op, [b], rfl, hs ▸ rfl⟩
    · rename_i lo hi _ hs
      cases h
      exact ⟨op, [lo, hi], rfl, hs ▸ rfl⟩
    · exact nomatch h
    · exact nomatch h

/-- The format of an instruction's opcode byte stands in its row. -/
theorem opcodeShape_opcode (i : Instr) : opcodeShape i.opcode = (i.descriptor?.map Descriptor.shape).getD .none := by
  unfold opcodeShape Instr.descriptor?
  cases descriptor? i.opcode <;> rfl

/-! ## Branch offsets (R156) -/

theorem toInt_ofInt_of_offsetInRange {off : Int} (h : offsetInRange off = true) : (BitVec.ofInt 8 off).toInt = off := by
  simp only [offsetInRange, Bool.and_eq_true, decide_eq_true_eq] at h
  exact BitVec.toInt_ofInt_eq_self (by decide) h.1 (by omega)

theorem offsetInRange_toInt (b : Byte) : offsetInRange b.toInt = true := by
  have lo := b.le_toInt
  have hi := b.toInt_lt
  simp only [offsetInRange, Bool.and_eq_true, decide_eq_true_eq]
  omega

/-! ## Every instruction -/

/-- The operand bytes of a well-formed instruction make it, in the format of its opcode byte. -/
theorem Instr.makes_self {i : Instr} (wf : i.wellFormed = true) : (opcodeShape i.opcode).Makes (encode i).tail i := by
  rw [opcodeShape_opcode]
  cases i
  case bpl | bmi | bvc | bvs | bcc | bcs | bne | beq =>
    simpa [Shape.Makes, encode] using toInt_ofInt_of_offsetInRange wf
  all_goals simp [Shape.Makes, encode]

/-- Every opcode byte is some instruction's: the one it makes with operand bytes of 0 (R157). -/
theorem exists_opcode_eq (op : Byte) : ∃ i : Instr, i.opcode = op := by
  have all : ∀ op : Byte, (decodeBytes op 0 0).map Instr.opcode = some op := by decide
  obtain ⟨i, -, hi⟩ := Option.map_eq_some_iff.1 (all op)
  exact ⟨i, hi⟩

/-- What the format of an opcode byte makes is well formed and encoded with that byte. -/
theorem opcodeShape_encodesAs (op : Byte) : (opcodeShape op).EncodesAs op := by
  obtain ⟨i, rfl⟩ := exists_opcode_eq op
  rw [opcodeShape_opcode]
  cases i <;> simp [Shape.EncodesAs, Instr.opcode, encode, Instr.wellFormed, offsetInRange_toInt]

/-- The opcode byte is the first byte of the encoding. -/
theorem encode_eq_opcode_cons (i : Instr) : encode i = i.opcode :: (encode i).tail := by
  cases i <;> rfl

end Sys2Proof

namespace Sys2Proof.Machine

/-! ## The step -/

/-- Where `peek` answers for consecutive addresses, bus reads give those bytes and change nothing (R97). -/
theorem busReadBytes_of_peek {bytes : List Byte} {a : Word} {s : State}
    (h : ∀ k b, bytes[k]? = some b → peek s (a + BitVec.ofNat 16 k) = some b) :
    busReadBytes bytes.length a s = .ok bytes s := by
  induction bytes generalizing a with
  | nil => rfl
  | cons b bytes ih =>
    have first : busRead a s = .ok b s := busRead_of_peek (by simpa using h 0 b rfl)
    have rest : busReadBytes bytes.length (a + 1) s = .ok bytes s := ih fun k c hc => by
      have next : a + 1 + BitVec.ofNat 16 k = a + BitVec.ofNat 16 (k + 1) := by bv_omega
      rw [next]
      exact h (k + 1) c hc
    rw [List.length_cons, busReadBytes, first, Res.andThen_ok, rest, Res.andThen_ok]

/-! ## Reading and storing instructions -/

/-- A form of a load, AND, ORA or EOR without a memory operand has its immediate byte as its one operand byte (R146). -/
theorem loadAndLogicForms_immediate (b : Byte) (w : Word) : ∀ i ∈ ldaForms b w ++ ldxForms b w ++ ldyForms b w ++
    andForms b w ++ oraForms b w ++ eorForms b w, memMode i = none → (encode i).tail = [b] := by
  have imm : (encode (.ldaImm b)).tail = [b] ∧ (encode (.ldxImm b)).tail = [b] ∧ (encode (.ldyImm b)).tail = [b] ∧
      (encode (.andImm b)).tail = [b] ∧ (encode (.oraImm b)).tail = [b] ∧ (encode (.eorImm b)).tail = [b] :=
    ⟨rfl, rfl, rfl, rfl, rfl, rfl⟩
  simpa [ldaForms, ldxForms, ldyForms, andForms, oraForms, eorForms] using imm

/-- On a console with the invariant an operand read outside the unimplemented region answers. -/
theorem operandRead_ok {i : Instr} {b : Byte} {s : State} (inv : s.Inv) (imm : memMode i = none → (encode i).tail = [b])
    (readable : operandReadable i s = true) : ∃ v t, operandRead i s = .ok v t ∧ ReadsOperand i s v t := by
  have frame : (afterFrame i s).Inv := (Keeps.afterFrame i s).inv inv
  unfold operandReadable at readable
  unfold operandRead ReadsOperand
  cases hm : memMode i with
  | none => exact ⟨b, afterFrame i s, by rw [imm hm, List.headI_cons], imm hm, rfl⟩
  | some m =>
    rw [hm] at readable
    obtain ⟨v, t, hr⟩ := busRead_ok frame.cart frame.bank (by simpa using readable)
    exact ⟨v, t, hr, hr⟩

/-- On a console with the invariant the reading frame is the shape `AllRead`, once its handler is in the shape's
words. -/
theorem IsRead.allRead {forms : List Instr} {b : Byte} {f result : Byte → State → State}
    (read : ∀ i ∈ forms, IsRead i f) (imm : ∀ i ∈ forms, memMode i = none → (encode i).tail = [b])
    (hf : ∀ v t, f v t = result v t) {s : State} (inv : s.Inv) : AllRead forms s result := by
  intro i hi readable
  obtain ⟨v, t, hr, operand⟩ := operandRead_ok inv (imm i hi) readable
  exact ⟨v, t, operand, by rw [read i hi s, hr, Res.andThen_ok, hf, Res.toOutcome_ok]⟩

/-- On a console with the invariant the storing frame is the shape `AllStore`. -/
theorem IsStore.allStore {forms : List Instr} {value : State → Byte} (store : ∀ i ∈ forms, IsStore i value) {s : State}
    (inv : s.Inv) : AllStore forms s (value s) := by
  intro i hi noFault
  have frame : (afterFrame i s).Inv := (Keeps.afterFrame i s).inv inv
  obtain ⟨t, hw⟩ := busWrite_ok frame.cart frame.bank noFault
  exact ⟨t, hw, by rw [store i hi s, hw, Res.toOutcome_ok]⟩

/-! ## Branches, jumps and calls -/

/-- Words share a page when their high bytes are equal. -/
theorem highByte_eq_iff (a b : Word) : highByte a = highByte b ↔ a.toNat / 256 = b.toNat / 256 := by
  rw [← BitVec.toNat_inj, highByte_toNat, highByte_toNat]

theorem branchTarget_eq (pc : Word) (off : Int) : branchTarget pc off = BitVec.ofInt 16 (pc.toNat + 2 + off) := by
  rw [branchTarget, BitVec.ofInt_add, BitVec.ofInt_add, BitVec.ofInt_natCast, BitVec.ofNat_toNat, BitVec.setWidth_eq]
  rfl

/-- A branch in its frame (R270, R571). -/
theorem branchInstr_eq (taken : Bool) (off : Int) (s : State) :
    branchInstr 2 2 taken off s = .next (branched taken off s) := by
  cases taken with
  | false => rfl
  | true =>
    have page : highByte (s.advance 2 2).pc = highByte (branchTarget s.pc off) ↔
        (s.pc + 2).toNat / 256 = (BitVec.ofInt 16 (s.pc.toNat + 2 + off)).toNat / 256 := by
      rw [highByte_eq_iff, branchTarget_eq]
      rfl
    simp only [branchInstr, branched, if_true, page]
    split_ifs <;> rw [branchTarget_eq] <;> rfl

/-- A word from its bytes, high byte first (R14). -/
theorem wordOf_eq_ofNat (hi lo : Byte) : wordOf hi lo = BitVec.ofNat 16 (256 * hi.toNat + lo.toNat) := by
  apply BitVec.eq_of_toNat_eq
  rw [wordOf_toNat, BitVec.toNat_ofNat]
  omega

/-- `Push16` (R17). -/
theorem push16_eq (s : State) (w : Word) : s.push16 w = { s with ram := pushedWord s.ram s.sp w, sp := s.sp - 2 } := by
  have hi : highByte w = BitVec.ofNat 8 (w.toNat / 256) := by
    apply BitVec.eq_of_toNat_eq
    rw [highByte_toNat, BitVec.toNat_ofNat]
    omega
  have lo : lowByte w = BitVec.ofNat 8 w.toNat := by
    apply BitVec.eq_of_toNat_eq
    rw [lowByte_toNat, BitVec.toNat_ofNat]
  have sp : s.sp - 1 - 1 = s.sp - 2 := by bv_omega
  rw [State.push16, push_eq, push_eq, hi, lo, pushedWord, ← sp]

/-- The word `Pull16` takes (R17). -/
theorem pulled16_eq (s : State) : s.pulled16 = pulledWord s.ram s.sp := by
  have sp : s.sp + 1 + 1 = s.sp + 2 := by bv_omega
  rw [State.pulled16, pulled_eq, pulled_eq, wordOf_eq_ofNat, pulledWord, ← sp]
  rfl

/-- The second pointer byte of JMP indirect stands at the next address of the same page (R155). -/
theorem secondPointerAddr_eq (w : Word) : wordOf (highByte w) (lowByte w + 1) =
    BitVec.ofNat 16 (w.toNat / 256 * 256 + (w.toNat + 1) % 256) := by
  apply BitVec.eq_of_toNat_eq
  have := w.isLt
  rw [wordOf_toNat, highByte_toNat, BitVec.toNat_add, lowByte_toNat, BitVec.toNat_ofNat]
  simp only [BitVec.ofNat_eq_ofNat, BitVec.toNat_ofNat]
  omega

/-- JMP indirect goes to the word its two pointer reads make, where they answer (R155, R279). -/
theorem exec_jmpInd_of_ok {w : Word} {s t u : State} {lo hi : Byte} (first : busRead w s = .ok lo t)
    (second : busRead (wordOf (highByte w) (lowByte w + 1)) t = .ok hi u) :
    exec (.jmpInd w) s = .next ((u.advance 3 5).setPc (wordOf hi lo)) := by
  show execJmpInd w s = _
  rw [execJmpInd, busReadPtrWrap, first, Res.andThen_ok, second]
  rfl

/-! ## The statements -/

/-- Settles O8: the operand bytes of an instruction make it again. -/
theorem decodeOfEncode : Obligations.DecodeOfEncode := by
  intro i rest wf
  rw [encode_eq_opcode_cons]
  exact decode_of_makes (Instr.makes_self wf) rest

/-- Settles O9: whatever an opcode's format makes is encoded as the bytes it was made of. -/
theorem encodeOfDecode : Obligations.EncodeOfDecode := by
  intro bytes rest i h
  obtain ⟨op, operand, rfl, makes⟩ := makes_of_decode h
  obtain ⟨wf, bytes⟩ := (opcodeShape_encodesAs op).of_makes makes
  exact ⟨wf, by rw [bytes]⟩

/-- Settles O7, each word by the format of its opcode byte. -/
theorem specWordsDecode : Obligations.SpecWordsDecode :=
  ⟨decode_f1 rfl _, decode_f2 rfl _ _, decode_f2 rfl _ _, decode_f3 rfl _ _ _, decode_f3 rfl _ _ _,
    decode_f2 (op := 0x10) rfl 0xFB [], decode_f1 rfl _, decode_f2 rfl _ _, decode_f2 rfl _ _, decode_f2 rfl _ _,
    decode_f1 rfl _, decode_f3 rfl _ _ _, rfl, rfl⟩

/-- Settles O11: the fetch reads the bytes at PC, which decode to the instruction. -/
theorem stepRunsDecodedInstruction : Obligations.StepRunsDecodedInstruction := by
  intro s i runs wf bytes
  have decoded : decode (encode i) = .ok (i, []) := by simpa using decodeOfEncode i [] wf
  have fetched : fetch s.dropInput = .ok i s.dropInput := fetch_of_busReadBytes decoded (busReadBytes_of_peek bytes)
  rw [runs.step_eq, instrStep, fetched]

/-- Settles O44: the load handlers in the frames of their forms. -/
theorem loadInstructions : Obligations.LoadInstructions := by
  intro b w s inv
  have imm := loadAndLogicForms_immediate b w
  simp only [List.forall_mem_append, and_assoc] at imm
  obtain ⟨lda, ldx, ldy, -⟩ := imm
  exact ⟨IsRead.allRead (ldaForms_isRead b w) lda (fun v t => setZN_eq (t.setA v) v) inv,
    IsRead.allRead (ldxForms_isRead b w) ldx (fun v t => setZN_eq (t.setX v) v) inv,
    IsRead.allRead (ldyForms_isRead b w) ldy (fun v t => setZN_eq (t.setY v) v) inv⟩

/-- Settles O45: the stores by their frames. -/
theorem storeInstructions : Obligations.StoreInstructions := by
  intro b w s inv
  exact ⟨IsStore.allStore (staForms_isStore b w) inv, IsStore.allStore (stxForms_isStore b w) inv,
    IsStore.allStore (styForms_isStore b w) inv, IsStore.allStore (saxForms_isStore b w) inv⟩

/-- Settles O50: the handlers of AND, ORA and EOR in the frames of their forms. -/
theorem logicInstructions : Obligations.LogicInstructions := by
  intro b w s inv
  have imm := loadAndLogicForms_immediate b w
  simp only [List.forall_mem_append, and_assoc] at imm
  obtain ⟨-, -, -, andI, oraI, eorI⟩ := imm
  exact ⟨IsRead.allRead (andForms_isRead b w) andI (fun m t => setZN_eq (t.setA (t.a &&& m)) _) inv,
    IsRead.allRead (oraForms_isRead b w) oraI (fun m t => setZN_eq (t.setA (t.a ||| m)) _) inv,
    IsRead.allRead (eorForms_isRead b w) eorI (fun m t => setZN_eq (t.setA (t.a ^^^ m)) _) inv⟩

/-- Settles O53: each branch is the branch frame on its flag. -/
theorem branches : Obligations.Branches := by
  intro off s
  exact ⟨branchInstr_eq _ off s, branchInstr_eq _ off s, branchInstr_eq _ off s, branchInstr_eq _ off s,
    branchInstr_eq _ off s, branchInstr_eq _ off s, branchInstr_eq _ off s, branchInstr_eq _ off s⟩

/-- Settles O54: the pointer is read in two bus reads, and the stack holds words high byte first. -/
theorem jumpsAndCalls : Obligations.JumpsAndCalls := by
  intro w s
  refine ⟨?_, fun inv first second => ?_, ?_, ?_⟩
  · rw [afterFrame_jmpAbs]
    rfl
  · obtain ⟨lo, t, hlo⟩ := busRead_ok inv.cart inv.bank first
    have read : t.Inv := (Keeps.read hlo).inv inv
    obtain ⟨hi, u, hhi⟩ := busRead_ok read.cart read.bank second
    refine ⟨lo, hi, t, u, hlo, hhi, ?_⟩
    rw [exec_jmpInd_of_ok hlo (secondPointerAddr_eq w ▸ hhi), wordOf_eq_ofNat]
    rfl
  · show jsrTo 3 6 w s = _
    have last : s.pc + 3 - 1 = s.pc + 2 := by bv_omega
    rw [afterFrame_jsrAbs, jsrTo, push16_eq, ← last]
    rfl
  · rw [exec_of_implied (f := rtsOp) rfl (afterFrame_rts s), afterFrame_rts, rtsOp, pulled16_eq]
    have sp : s.sp + 1 + 1 = s.sp + 2 := by bv_omega
    rw [← sp]
    rfl

end Sys2Proof.Machine
end

section

/-! The transfers and the register counts (R206 to R211, R246 to R249): each handler as one exact next state. -/

namespace Sys2Proof.Machine

/-! ## The transfers -/

/-- TAX (R206). -/
theorem taxOp_eq (s : State) : taxOp s = { s with x := s.a, p := s.p.zn s.a } := setZN_eq (s.setX s.a) s.a

/-- TAY (R207). -/
theorem tayOp_eq (s : State) : tayOp s = { s with y := s.a, p := s.p.zn s.a } := setZN_eq (s.setY s.a) s.a

/-- TXA (R208). -/
theorem txaOp_eq (s : State) : txaOp s = { s with a := s.x, p := s.p.zn s.x } := setZN_eq (s.setA s.x) s.x

/-- TYA (R209). -/
theorem tyaOp_eq (s : State) : tyaOp s = { s with a := s.y, p := s.p.zn s.y } := setZN_eq (s.setA s.y) s.y

/-- TSX (R210). -/
theorem tsxOp_eq (s : State) : tsxOp s = { s with x := s.sp, p := s.p.zn s.sp } := setZN_eq (s.setX s.sp) s.sp

/-- TXS (R211): no flag. -/
theorem txsOp_eq (s : State) : txsOp s = { s with sp := s.x } := rfl

/-! ## The counts, modulo 256 -/

/-- One more, modulo 256. -/
theorem byte_add_one_eq (v : Byte) : v + 1 = BitVec.ofNat 8 (v.toNat + 1) := by bv_omega

/-- One less is 255 more, modulo 256. -/
theorem byte_sub_one_eq (v : Byte) : v - 1 = BitVec.ofNat 8 (v.toNat + 255) := by bv_omega

/-- INX (R246). -/
theorem inxOp_eq (s : State) : inxOp s =
    { s with x := BitVec.ofNat 8 (s.x.toNat + 1), p := s.p.zn (BitVec.ofNat 8 (s.x.toNat + 1)) } := by
  rw [inxOp, byte_add_one_eq]
  exact setZN_eq _ _

/-- INY (R247). -/
theorem inyOp_eq (s : State) : inyOp s =
    { s with y := BitVec.ofNat 8 (s.y.toNat + 1), p := s.p.zn (BitVec.ofNat 8 (s.y.toNat + 1)) } := by
  rw [inyOp, byte_add_one_eq]
  exact setZN_eq _ _

/-- DEX (R248). -/
theorem dexOp_eq (s : State) : dexOp s =
    { s with x := BitVec.ofNat 8 (s.x.toNat + 255), p := s.p.zn (BitVec.ofNat 8 (s.x.toNat + 255)) } := by
  rw [dexOp, byte_sub_one_eq]
  exact setZN_eq _ _

/-- DEY (R249). -/
theorem deyOp_eq (s : State) : deyOp s =
    { s with y := BitVec.ofNat 8 (s.y.toNat + 255), p := s.p.zn (BitVec.ofNat 8 (s.y.toNat + 255)) } := by
  rw [deyOp, byte_sub_one_eq]
  exact setZN_eq _ _

/-! ## The statement -/

/-- An instruction with no operand completes in the state its handler makes. -/
theorem exec_eq_next_of_implied {i : Instr} {n c : Nat} {f : State → State} {s t : State}
    (he : exec i s = impliedInstr n c f s) (ht : f (s.advance n c) = t) : exec i s = .next t := by
  rw [he, impliedInstr, ht]

/-- Settles O46: the ten handlers in their frames of one byte and two cycles. -/
theorem transfersAndCounts : Obligations.TransfersAndCounts := by
  intro s
  rw [afterFrame_tax, afterFrame_tay, afterFrame_txa, afterFrame_tya, afterFrame_tsx, afterFrame_txs, afterFrame_inx,
    afterFrame_iny, afterFrame_dex, afterFrame_dey]
  exact ⟨exec_eq_next_of_implied rfl (taxOp_eq _), exec_eq_next_of_implied rfl (tayOp_eq _),
    exec_eq_next_of_implied rfl (txaOp_eq _), exec_eq_next_of_implied rfl (tyaOp_eq _),
    exec_eq_next_of_implied rfl (tsxOp_eq _), exec_eq_next_of_implied rfl (txsOp_eq _),
    exec_eq_next_of_implied rfl (inxOp_eq _), exec_eq_next_of_implied rfl (inyOp_eq _),
    exec_eq_next_of_implied rfl (dexOp_eq _), exec_eq_next_of_implied rfl (deyOp_eq _)⟩

end Sys2Proof.Machine
end

section
/-! ADC, SBC, the compares and BIT (R231, R232, R234 to R236, R240 to R243, R324): the adder, the complement and the
difference in integers, and the handlers in the frames of their forms. -/

namespace Sys2Proof.Machine

/-! ## The adder in integers (R231) -/

/-- Bit 7 is the sign. -/
theorem and_0x80_bne_zero (v : Byte) : (v &&& 0x80 != 0) = v.msb := by
  revert v
  decide

/-- A byte's signed value is its unsigned one, or 256 less from 128 on. -/
theorem byte_toInt_cases (v : Byte) :
    v.toNat < 128 ∧ v.toInt = v.toNat ∨ 128 ≤ v.toNat ∧ v.toInt = (v.toNat : Int) - 256 := by
  rw [BitVec.toInt_eq_toNat_cond]
  omega

/-- V tells a signed sum that leaves the signed range: the result is then 256 off, so of the other sign than the two
operands. -/
theorem addOverflow_eq (a b : Byte) (cin : Bool) : addOverflow a b cin =
    decide (a.toInt + b.toInt + (cin.toNat : Int) < -128 ∨ 127 < a.toInt + b.toInt + (cin.toNat : Int)) := by
  have result : (addResult a b cin).toNat = (a.toNat + b.toNat + cin.toNat) % 256 := BitVec.toNat_ofNat _ _
  have carry := cin.toNat_le
  have ha := byte_toInt_cases a
  have hb := byte_toInt_cases b
  have hr := byte_toInt_cases (addResult a b cin)
  rw [addOverflow, and_0x80_bne_zero, BitVec.msb_and, BitVec.msb_xor, BitVec.msb_xor, BitVec.msb_eq_toInt,
    BitVec.msb_eq_toInt, BitVec.msb_eq_toInt, Bool.eq_iff_iff]
  simp only [Bool.and_eq_true, Bool.xor_iff_ne, ne_eq, decide_eq_decide, decide_eq_true_eq]
  omega

/-- The handler of ADC in integers (R231, R235); D does not enter (R234). -/
theorem addM_eq_binaryAdd (m : Byte) (s : State) : addM m s = binaryAdd m s := by
  let r := addResult s.a m s.p.c
  calc addM m s
    _ = (((s.setA r).setZN r).setC (addCarry s.a m s.p.c)).setV (addOverflow s.a m s.p.c) := rfl
    _ = binaryAdd m s := by
      rw [setZN_eq, addOverflow_eq]
      rfl

/-! ## The complement (R236) -/

theorem xor_0xFF_toNat (m : Byte) : (m ^^^ 0xFF).toNat = 255 - m.toNat := by
  rw [show m ^^^ 0xFF = ~~~m from BitVec.xor_allOnes, BitVec.toNat_not]

theorem xor_0xFF_toInt (m : Byte) : (m ^^^ 0xFF).toInt = -1 - m.toInt := by
  have hm := byte_toInt_cases m
  have hx := byte_toInt_cases (m ^^^ 0xFF)
  rw [xor_0xFF_toNat] at hx
  omega

/-- Adding the complement is subtracting: the two sums differ by 256, which the byte drops and C counts. -/
theorem binaryAdd_xor_0xFF (m : Byte) (s : State) : binaryAdd (m ^^^ 0xFF) s = binarySub m s := by
  have sum : ((s.a.toNat + (m ^^^ 0xFF).toNat + s.p.c.toNat : Nat) : Int) =
      (s.a.toNat : Int) - m.toNat - (1 - (s.p.c.toNat : Int)) + 256 := by
    rw [xor_0xFF_toNat]
    omega
  have byte : BitVec.ofNat 8 (s.a.toNat + (m ^^^ 0xFF).toNat + s.p.c.toNat) =
      BitVec.ofInt 8 ((s.a.toNat : Int) - m.toNat - (1 - (s.p.c.toNat : Int))) := by
    rw [← BitVec.ofInt_natCast, sum, BitVec.ofInt_add]
    exact BitVec.add_zero _
  have carry : 256 ≤ s.a.toNat + (m ^^^ 0xFF).toNat + s.p.c.toNat ↔
      0 ≤ (s.a.toNat : Int) - m.toNat - (1 - (s.p.c.toNat : Int)) := by omega
  have signed : s.a.toInt + (m ^^^ 0xFF).toInt + (s.p.c.toNat : Int) =
      s.a.toInt - m.toInt - (1 - (s.p.c.toNat : Int)) := by
    rw [xor_0xFF_toInt]
    omega
  simp only [binaryAdd, binarySub, byte, carry, signed]

theorem subM_eq_binarySub (m : Byte) (s : State) : subM m s = binarySub m s :=
  (addM_eq_binaryAdd (m ^^^ 0xFF) s).trans (binaryAdd_xor_0xFF m s)

/-! ## Compares and BIT (R232, R243) -/

theorem byte_sub_eq_ofInt (r m : Byte) : r - m = BitVec.ofInt 8 ((r.toNat : Int) - m.toNat) := by
  apply BitVec.eq_of_toNat_eq
  rw [BitVec.toNat_ofInt, BitVec.toNat_sub]
  omega

/-- `Compare` (R232). -/
theorem compare_eq (s : State) (r m : Byte) : s.compare r m = { s with p := comparison r m s.p } := by
  calc s.compare r m
    _ = (s.setZN (r - m)).setC (decide (m.toNat ≤ r.toNat)) := rfl
    _ = { s with p := comparison r m s.p } := by
      rw [setZN_eq, byte_sub_eq_ofInt]
      rfl

/-- BIT (R243). -/
theorem bitM_eq (m : Byte) (s : State) : bitM m s =
    { s with p := { s.p with z := decide (s.a &&& m = 0), v := m.toNat.testBit 6, n := m.toNat.testBit 7 } } := rfl

/-! ## The statements -/

/-- A form of ADC, SBC, a compare or BIT without a memory operand has its immediate byte as its one operand byte
(R146). -/
theorem addAndCompareForms_immediate (b : Byte) (w : Word) : ∀ i ∈ adcForms b w ++ sbcForms b w ++ cmpForms b w ++
    cpxForms b w ++ cpyForms b w ++ bitForms b w, memMode i = none → (encode i).tail = [b] := by
  have imm : (encode (.adcImm b)).tail = [b] ∧ (encode (.sbcImm b)).tail = [b] ∧ (encode (.sbcImmEB b)).tail = [b] ∧
      (encode (.cmpImm b)).tail = [b] ∧ (encode (.cpxImm b)).tail = [b] ∧ (encode (.cpyImm b)).tail = [b] :=
    ⟨rfl, rfl, rfl, rfl, rfl, rfl⟩
  simpa [adcForms, sbcForms, cmpForms, cpxForms, cpyForms, bitForms] using imm

/-- Settles O49: the adder in integers, and SBC as the adder on the complement, in the frames of their forms. -/
theorem addAndSubtract : Obligations.AddAndSubtract := by
  intro b w s inv
  have imm := addAndCompareForms_immediate b w
  simp only [List.forall_mem_append, and_assoc] at imm
  obtain ⟨adc, sbc, -⟩ := imm
  exact ⟨IsRead.allRead (adcForms_isRead b w) adc addM_eq_binaryAdd inv,
    IsRead.allRead (sbcForms_isRead b w) sbc subM_eq_binarySub inv⟩

/-- Settles O51: the compares by their difference, BIT by the bits of its byte, in the frames of their forms. -/
theorem compareAndBitTest : Obligations.CompareAndBitTest := by
  intro b w s inv
  have imm := addAndCompareForms_immediate b w
  simp only [List.forall_mem_append, and_assoc] at imm
  obtain ⟨-, -, cmp, cpx, cpy, bit⟩ := imm
  exact ⟨IsRead.allRead (cmpForms_isRead b w) cmp (fun m t => compare_eq t t.a m) inv,
    IsRead.allRead (cpxForms_isRead b w) cpx (fun m t => compare_eq t t.x m) inv,
    IsRead.allRead (cpyForms_isRead b w) cpy (fun m t => compare_eq t t.y m) inv,
    IsRead.allRead (bitForms_isRead b w) bit bitM_eq inv⟩

end Sys2Proof.Machine
end

section

/-! BRK, RTI, the flag instructions and the NOPs without an operand byte (R282 to R291, R323, R509): the interrupt entry
as one exact next state, and each handler in its frame. -/

namespace Sys2Proof.Machine

/-! ## The interrupt entry (R282, R509) -/

/-- Where `peek` answers for both bytes, a two-byte read gives their word and changes nothing (R16). -/
theorem busRead16_of_peek {a : Word} {s : State} {lo hi : Byte} (hlo : peek s a = some lo)
    (hhi : peek s (a + 1) = some hi) : busRead16 a s = .ok (BitVec.ofNat 16 (256 * hi.toNat + lo.toNat)) s := by
  rw [busRead16, busRead_of_peek hlo, Res.andThen_ok, busRead_of_peek hhi, Res.andThen_ok, wordOf_eq_ofNat]

/-- The three pushes and the I flag of an interrupt entry, in the statement's words (R509). -/
theorem pushedFrame_eq (brk : Bool) (s : State) :
    ((s.push16 s.pc).push (s.p.pack brk)).setI true = interruptFrame s.pc brk s := by
  have sp : s.sp - 2 - 1 = s.sp - 3 := by bv_omega
  rw [push_eq, push16_eq, pack_eq_statusByte, interruptFrame, ← sp]
  rfl

/-- The frame goes to RAM, so PRG-ROM is peeked as before it (R84, R95). -/
theorem peek_interruptFrame {a : Word} (lo : 0x8000 ≤ a.toNat) (ret : Word) (brk : Bool) (s : State) :
    peek (interruptFrame ret brk s) a = peek s a := by
  have ram : ¬ a.toNat ≤ 0x1FFF := by omega
  have devices : ¬ a.toNat ≤ 0x5FFF := by omega
  have window : ¬ a.toNat ≤ 0x7FFF := by omega
  simp only [peek, if_neg ram, if_neg devices, if_neg window]
  rfl

/-- On a console with the invariant an entry through a vector in PRG-ROM completes: the frame is pushed, and PC is the
vector's word (R509). -/
theorem enterInterrupt_prg {s : State} (inv : s.Inv) (brk : Bool) {vector : Word} (first : 0x8000 ≤ vector.toNat)
    (second : 0x8000 ≤ (vector + 1).toNat) :
    ∃ lo hi, peek s vector = some lo ∧ peek s (vector + 1) = some hi ∧
      enterInterrupt brk vector s =
        .ok () { interruptFrame s.pc brk s with pc := BitVec.ofNat 16 (256 * hi.toNat + lo.toNat) } := by
  have hlo := peek_prg inv.cart inv.bank first
  have hhi := peek_prg inv.cart inv.bank second
  refine ⟨_, _, hlo, hhi, ?_⟩
  rw [enterInterrupt, pushedFrame_eq,
    busRead16_of_peek ((peek_interruptFrame first s.pc brk s).trans hlo)
      ((peek_interruptFrame second s.pc brk s).trans hhi)]
  rfl

/-! ## RTI (R283) -/

/-- RTI: P from the first byte pulled, PC from the next two. -/
theorem returnFromInterrupt_eq (s : State) : returnFromInterrupt s = { s with
    p := statusOf (s.ram.read (stackIndex (s.sp + 1))), pc := pulledWord s.ram (s.sp + 1), sp := s.sp + 3 } := by
  have sp : s.sp + 1 + 1 + 1 = s.sp + 3 := by bv_omega
  rw [returnFromInterrupt, pulled_eq, unpack_eq_statusOf, pulled16_eq, ← sp]
  rfl

/-! ## NOP (R291, R323) -/

/-- An instruction that runs NOP's handler writes nothing past its frame (R291). -/
theorem exec_of_nop {i : Instr} {s : State} (he : exec i s = impliedInstr 1 2 nopOp s)
    (hf : afterFrame i s = s.advance 1 2) : exec i s = .next (afterFrame i s) :=
  exec_of_implied he hf

/-- The NOPs without an operand byte, one by one (R291, R323). -/
theorem plainNopForms_exec (s : State) : ∀ i ∈ plainNopForms, exec i s = .next (afterFrame i s) := by
  simp only [plainNopForms, List.forall_mem_cons, List.not_mem_nil, false_implies, implies_true, and_true]
  exact ⟨exec_of_nop rfl (afterFrame_nopImp1A s), exec_of_nop rfl (afterFrame_nopImp3A s),
    exec_of_nop rfl (afterFrame_nopImp5A s), exec_of_nop rfl (afterFrame_nopImp7A s),
    exec_of_nop rfl (afterFrame_nopImpDA s), exec_of_nop rfl (afterFrame_nop s),
    exec_of_nop rfl (afterFrame_nopImpFA s)⟩

/-! ## The statements -/

/-- Settles O55: BRK by the interrupt entry from its frame, RTI by its handler. -/
theorem breakAndReturn : Obligations.BreakAndReturn := by
  intro s
  refine ⟨fun inv => ?_, ?_⟩
  · have frame : (afterFrame .brk s).Inv := (Keeps.afterFrame .brk s).inv inv
    obtain ⟨lo, hi, hlo, hhi, entry⟩ := enterInterrupt_prg frame true (vector := 0xFFFE) (by decide) (by decide)
    rw [afterFrame_brk] at hlo hhi entry
    refine ⟨lo, hi, hlo, hhi, ?_⟩
    show (enterInterrupt true 0xFFFE (s.advance 2 7)).toOutcome = _
    rw [entry, Res.toOutcome_ok, afterFrame_brk]
    rfl
  · rw [afterFrame_rti]
    exact exec_eq_next_of_implied rfl (returnFromInterrupt_eq _)

/-- Settles O48: each flag handler writes its one flag in the frame of one byte and two cycles, and NOP's writes
nothing. -/
theorem flagInstructionsAndNop : Obligations.FlagInstructionsAndNop := by
  intro s
  rw [afterFrame_clc, afterFrame_sec, afterFrame_cli, afterFrame_sei, afterFrame_cld, afterFrame_sed, afterFrame_clv]
  exact ⟨exec_eq_next_of_implied (f := clcOp) rfl rfl, exec_eq_next_of_implied (f := secOp) rfl rfl,
    exec_eq_next_of_implied (f := cliOp) rfl rfl, exec_eq_next_of_implied (f := seiOp) rfl rfl,
    exec_eq_next_of_implied (f := cldOp) rfl rfl, exec_eq_next_of_implied (f := sedOp) rfl rfl,
    exec_eq_next_of_implied (f := clvOp) rfl rfl, plainNopForms_exec s⟩

end Sys2Proof.Machine
end

section

/-! The undocumented instructions (43_undocumented.md, R310 to R332): each handler as one exact next state, the unstable
opcodes under both values of their parameter, and the halting opcodes. -/

namespace Sys2Proof.Machine

/-! ## The handlers of the reading instructions (R315, R318 to R322, R326, R327) -/

/-- LAX (R315). -/
theorem laxM_eq (m : Byte) (s : State) : laxM m s = { s with a := m, x := m, p := s.p.zn m } :=
  setZN_eq ((s.setA m).setX m) m

/-- ANC (R318): C is bit 7, as N is. -/
theorem ancM_eq (m : Byte) (s : State) : ancM m s = { s with
    a := s.a &&& m, p := { s.p.zn (s.a &&& m) with c := topBit (s.a &&& m) } } := by
  rw [ancM, setZN_eq, getLsbD_seven_eq]
  rfl

/-- ALR (R319): AND, then LSR on A. -/
theorem alrM_eq (m : Byte) (s : State) : alrM m s = { s with
    a := shiftedRight (s.a &&& m) false
    p := { s.p.zn (shiftedRight (s.a &&& m) false) with c := lowBit (s.a &&& m) } } := by
  rw [alrM, lsr_eq]
  dsimp only
  rw [setZN_eq]
  rfl

/-- ARR (R320): AND, then a rotate whose C and V are bits 6 and 5 of the result. -/
theorem arrM_eq (m : Byte) (s : State) : arrM m s =
    let r := shiftedRight (s.a &&& m) s.p.c
    { s with a := r, p := { s.p.zn r with c := r.toNat.testBit 6, v := r.toNat.testBit 6 != r.toNat.testBit 5 } } := by
  rw [arrM, shiftRight_or_bitAt]
  dsimp only
  rw [setZN_eq]
  rfl

/-- AXS (R321): the flags of a compare, and its difference in X. -/
theorem axsM_eq (m : Byte) (s : State) : axsM m s = { s with
    x := BitVec.ofInt 8 (((s.a &&& s.x).toNat : Int) - m.toNat), p := comparison (s.a &&& s.x) m s.p } := by
  rw [axsM, compare_eq, byte_sub_eq_ofInt]
  rfl

/-- LAS (R322). -/
theorem lasM_eq (m : Byte) (s : State) : lasM m s = { s with
    a := m &&& s.sp, x := m &&& s.sp, sp := m &&& s.sp, p := s.p.zn (m &&& s.sp) } :=
  setZN_eq (((s.setA (m &&& s.sp)).setX (m &&& s.sp)).setSp (m &&& s.sp)) _

/-- XAA's formula (R326). -/
theorem xaaM_eq (m : Byte) (s : State) : xaaM m s = { s with
    a := (s.a ||| s.params.magic) &&& s.x &&& m, p := s.p.zn ((s.a ||| s.params.magic) &&& s.x &&& m) } :=
  setZN_eq (s.setA ((s.a ||| s.params.magic) &&& s.x &&& m)) _

/-- LXA's formula (R327). -/
theorem lxaM_eq (m : Byte) (s : State) : lxaM m s = { s with
    a := (s.a ||| s.params.magic) &&& m, x := (s.a ||| s.params.magic) &&& m
    p := s.p.zn ((s.a ||| s.params.magic) &&& m) } :=
  setZN_eq ((s.setA ((s.a ||| s.params.magic) &&& m)).setX ((s.a ||| s.params.magic) &&& m)) _

/-! ## The reading instructions in their frames -/

section Forms
variable (b : Byte) (w : Word)

theorem ancForms_isRead : ∀ i ∈ [Instr.ancImm0B b, .ancImm2B b], IsRead i ancM := by
  simp only [List.forall_mem_cons, List.not_mem_nil, false_implies, implies_true, and_true]
  exact ⟨isRead_of_imm (fun _ => rfl) rfl (memMode_ancImm0B b) (afterFrame_ancImm0B b),
    isRead_of_imm (fun _ => rfl) rfl (memMode_ancImm2B b) (afterFrame_ancImm2B b)⟩

theorem alrImm_isRead : IsRead (.alrImm b) alrM :=
  isRead_of_imm (fun _ => rfl) rfl (memMode_alrImm b) (afterFrame_alrImm b)

theorem arrImm_isRead : IsRead (.arrImm b) arrM :=
  isRead_of_imm (fun _ => rfl) rfl (memMode_arrImm b) (afterFrame_arrImm b)

theorem axsImm_isRead : IsRead (.axsImm b) axsM :=
  isRead_of_imm (fun _ => rfl) rfl (memMode_axsImm b) (afterFrame_axsImm b)

/-- An undocumented reading form without a memory operand has its immediate byte as its one operand byte (R146). -/
theorem undocumentedReadForms_immediate : ∀ i ∈ laxForms b w ++ [.ancImm0B b, .ancImm2B b] ++ [.alrImm b] ++
    [.arrImm b] ++ [.axsImm b] ++ [.lasAbsY w] ++ readingNopForms b w, memMode i = none → (encode i).tail = [b] := by
  have imm : (encode (.ancImm0B b)).tail = [b] ∧ (encode (.ancImm2B b)).tail = [b] ∧ (encode (.alrImm b)).tail = [b] ∧
      (encode (.arrImm b)).tail = [b] ∧ (encode (.axsImm b)).tail = [b] ∧ (encode (.nopImm80 b)).tail = [b] ∧
      (encode (.nopImm82 b)).tail = [b] ∧ (encode (.nopImm89 b)).tail = [b] ∧ (encode (.nopImmC2 b)).tail = [b] ∧
      (encode (.nopImmE2 b)).tail = [b] := ⟨rfl, rfl, rfl, rfl, rfl, rfl, rfl, rfl, rfl, rfl⟩
  simpa [laxForms, readingNopForms] using imm

end Forms

/-! ## The unstable opcodes (R326 to R332) -/

theorem unstableInstr_refuse {s : State} (refuse : s.params.unstable = .refuse) (op : Byte) (o : State → Outcome) :
    unstableInstr op o s = .refused (.unstableOpcode op) := by
  rw [unstableInstr, refuse]

theorem unstableInstr_formula {s : State} (formula : s.params.unstable = .formula) (op : Byte) (o : State → Outcome) :
    unstableInstr op o s = o s := by
  rw [unstableInstr, formula]

/-- Each of the seven unstable opcodes has the unstable frame at its own opcode byte (R332). -/
theorem unstableForms_exec (b : Byte) (w : Word) (s : State) :
    ∀ i ∈ unstableForms b w, ∃ o, exec i s = unstableInstr i.opcode o s := by
  intro i hi
  fin_cases hi <;> exact ⟨_, rfl⟩

/-- Under `formula` an unstable opcode with an immediate byte completes by its handler, in its frame. -/
theorem readsThen_of_unstableImm {i : Instr} {op b : Byte} {n c : Nat} {f result : Byte → State → State} {s : State}
    (formula : s.params.unstable = .formula) (he : exec i s = unstableInstr op (immInstr n c f b) s)
    (hb : (encode i).tail = [b]) (hm : memMode i = none) (hi : afterFrame i s = s.advance n c)
    (hf : ∀ v t, f v t = result v t) : ReadsThen i s result := by
  have operand : ReadsOperand i s b (afterFrame i s) := by
    rw [ReadsOperand, hm]
    exact ⟨hb, rfl⟩
  exact ⟨b, afterFrame i s, operand, by rw [he, unstableInstr_formula formula, immInstr, hf, hi]⟩

/-- Under `formula`, on a console with the invariant, the frame of AHX, TAS, SHY and SHX is the shape `HighStores`, once
its handler is in the shape's words. -/
theorem IsHighStore.highStores {i : Instr} {op v sp : Byte} {f : Byte → State → Byte × State} {s : State}
    (high : IsHighStore i op f) (inv : s.Inv) (formula : s.params.unstable = .formula)
    (hf : f (Machine.highPlusOne i s) (afterFrame i s) = (v, { afterFrame i s with sp := sp })) :
    HighStores i s v sp := by
  intro noFault
  have frame : (afterFrame i s).Inv := (Keeps.afterFrame i s).inv inv
  obtain ⟨t, hw⟩ := busWrite_ok (s := { afterFrame i s with sp := sp }) frame.cart frame.bank noFault
  refine ⟨t, hw, ?_⟩
  rw [high s, unstableInstr_formula formula, hf]
  exact congrArg Res.toOutcome hw

/-! ## The halting opcodes (R325) -/

/-- An instruction with the halting frame stops with its own address, in the state at handler entry (R165, R325). -/
theorem exec_of_jam {i : Instr} {n c : Nat} {s : State} (he : exec i s = jamInstr n c s)
    (hi : afterFrame i s = s.advance n c) : exec i s = .fault (.jam s.pc (afterFrame i s)) := by
  rw [he, hi, jamInstr]

/-! ## The statements -/

/-- Settles O56: the byte written by the shift or count, then the handler of ORA, AND, EOR, ADC, CMP or SBC, in the
read-modify-write frames of the forms. -/
theorem undocumentedReadModifyWrite : Obligations.UndocumentedReadModifyWrite := by
  intro b w s inv
  have mem := rmwForms_memMode b w
  simp only [List.forall_mem_append, and_assoc] at mem
  obtain ⟨-, -, -, -, -, -, slo, rla, sre, rra, dcp, isb⟩ := mem
  refine ⟨?_, ?_, ?_, ?_, ?_, ?_⟩
  · exact IsRmw.allRmw (sloForms_isRmw b w) slo asl_eq (fun r u => setZN_eq (u.setA (u.a ||| r)) _) inv
  · exact IsRmw.allRmw (rlaForms_isRmw b w) rla rol_eq (fun r u => setZN_eq (u.setA (u.a &&& r)) _) inv
  · exact IsRmw.allRmw (sreForms_isRmw b w) sre lsr_eq (fun r u => setZN_eq (u.setA (u.a ^^^ r)) _) inv
  · exact IsRmw.allRmw (rraForms_isRmw b w) rra ror_eq addM_eq_binaryAdd inv
  · exact IsRmw.allRmw (dcpForms_isRmw b w) dcp decV_eq (fun r u => compare_eq u u.a r) inv
  · exact IsRmw.allRmw (isbForms_isRmw b w) isb incV_eq subM_eq_binarySub inv

/-- Settles O57: each handler as an exact next state, in the reading frames of its forms. -/
theorem undocumentedReads : Obligations.UndocumentedReads := by
  intro b w s inv
  have imm := undocumentedReadForms_immediate b w
  simp only [List.forall_mem_append, and_assoc] at imm
  obtain ⟨lax, anc, alr, arr, axs, las, nop⟩ := imm
  refine ⟨?_, ?_, ?_, ?_, ?_, ?_, ?_⟩
  · exact IsRead.allRead (laxForms_isRead b w) lax laxM_eq inv
  · exact IsRead.allRead (ancForms_isRead b) anc ancM_eq inv
  · exact IsRead.allRead (List.forall_mem_singleton.2 (alrImm_isRead b)) alr alrM_eq inv
  · exact IsRead.allRead (List.forall_mem_singleton.2 (arrImm_isRead b)) arr arrM_eq inv
  · exact IsRead.allRead (List.forall_mem_singleton.2 (axsImm_isRead b)) axs axsM_eq inv
  · exact IsRead.allRead (List.forall_mem_singleton.2 (lasAbsY_isRead w)) las lasM_eq inv
  · exact IsRead.allRead (readingNopForms_isRead b w) nop (fun _ _ => rfl) inv

/-- Settles O58: under `refuse` by the unstable frame alone; under `formula` by the handlers of the two immediate opcodes
and by the value and SP that each store's handler gives in its frame. -/
theorem unstableOpcodes : Obligations.UnstableOpcodes := by
  intro b w s inv
  refine ⟨fun refuse i hi => ?_, fun formula => ⟨?_, ?_, ?_, ?_, ?_, ?_⟩⟩
  · obtain ⟨o, ho⟩ := unstableForms_exec b w s i hi
    rw [ho, unstableInstr_refuse refuse]
  · exact List.forall_mem_singleton.2 fun _ =>
      readsThen_of_unstableImm formula rfl rfl (memMode_xaaImm b) (afterFrame_xaaImm b s) xaaM_eq
  · exact List.forall_mem_singleton.2 fun _ =>
      readsThen_of_unstableImm formula rfl rfl (memMode_lxaImm b) (afterFrame_lxaImm b s) lxaM_eq
  · simp only [List.forall_mem_cons, List.not_mem_nil, false_implies, implies_true, and_true]
    exact ⟨(ahxIndY_isHighStore b).highStores inv formula (by rw [afterFrame_ahxIndY]; rfl),
      (ahxAbsY_isHighStore w).highStores inv formula (by rw [afterFrame_ahxAbsY]; rfl)⟩
  · exact (tasAbsY_isHighStore w).highStores inv formula (by rw [afterFrame_tasAbsY]; rfl)
  · exact (shyAbsX_isHighStore w).highStores inv formula (by rw [afterFrame_shyAbsX]; rfl)
  · exact (shxAbsY_isHighStore w).highStores inv formula (by rw [afterFrame_shxAbsY]; rfl)

/-- Settles O59: all twelve have the halting frame. -/
theorem jamFaults : Obligations.JamFaults := by
  intro s i hi
  fin_cases hi <;> exact exec_of_jam rfl (by simp)

end Sys2Proof.Machine
end

section
/-! The VRAM addresses `v` and `t` as five fields (R50): masking, shifting and stepping them acts on each field by itself,
so the scroll updates (R431 to R434) and the register writes (R401, R407, R408) are what they do to the fields. -/

namespace Sys2Proof.Machine

/-! ## Bit fields in integers -/

theorem toNat_append_eq_add {m n : Nat} (x : BitVec m) (y : BitVec n) : (x ++ y).toNat = x.toNat * 2 ^ n + y.toNat := by
  rw [BitVec.toNat_append, Nat.shiftLeft_eq, Nat.mul_comm, ← Nat.two_pow_add_eq_or_of_lt y.isLt]

/-- Bits from `k` on do not meet a number below `2 ^ k`. -/
theorem or_two_pow_mul {x k : Nat} (h : x < 2 ^ k) (a : Nat) : x ||| 2 ^ k * a = x + 2 ^ k * a := by
  rw [Nat.or_comm, ← Nat.two_pow_add_eq_or_of_lt h, Nat.add_comm]

/-- One bit of an address, kept in its place. -/
theorem and_two_pow_toNat (v m : BitVec 15) (k : Nat) (hm : m.toNat = 2 ^ k) :
    (v &&& m).toNat = 2 ^ k * (v.toNat / 2 ^ k % 2) := by
  rw [BitVec.toNat_and, hm, Nat.and_two_pow, Nat.toNat_testBit, Nat.mul_comm]

/-- A byte's field, moved to bit `n` of the address. -/
theorem setWidth_shiftLeft_toNat {m : Byte} {n : Nat} (h : m.toNat * 2 ^ n < 2 ^ 15) :
    (m.setWidth 15 <<< n).toNat = m.toNat * 2 ^ n := by
  rw [BitVec.toNat_shiftLeft, BitVec.toNat_setWidth_of_le (by decide), Nat.shiftLeft_eq, Nat.mod_eq_of_lt h]

/-! ## The fields -/

/-- The address of these fields (R50): fine Y, vertical and horizontal nametable, coarse Y, coarse X. -/
def scrollAddr (fy : BitVec 3) (ny nx : BitVec 1) (cy cx : BitVec 5) : BitVec 15 := fy ++ ny ++ nx ++ cy ++ cx

section Fields
variable (fy gy : BitVec 3) (ny nx my mx : BitVec 1) (cy cx dy dx : BitVec 5)

theorem scrollAddr_toNat : (scrollAddr fy ny nx cy cx).toNat =
    fy.toNat * 4096 + ny.toNat * 2048 + nx.toNat * 1024 + cy.toNat * 32 + cx.toNat := by
  simp only [scrollAddr, toNat_append_eq_add]
  omega

theorem scrollAddr_coarseX : (scrollAddr fy ny nx cy cx).toNat % 32 = cx.toNat := by
  rw [scrollAddr_toNat]
  omega

theorem scrollAddr_nametable : (scrollAddr fy ny nx cy cx).toNat / 1024 % 4 = ny.toNat * 2 + nx.toNat := by
  rw [scrollAddr_toNat]
  omega

theorem scrollAddr_and : scrollAddr fy ny nx cy cx &&& scrollAddr gy my mx dy dx =
    scrollAddr (fy &&& gy) (ny &&& my) (nx &&& mx) (cy &&& dy) (cx &&& dx) := by
  show (fy ++ ny ++ nx ++ cy ++ cx) &&& (gy ++ my ++ mx ++ dy ++ dx) = _
  simp only [BitVec.and_append]
  rfl

theorem scrollAddr_or : scrollAddr fy ny nx cy cx ||| scrollAddr gy my mx dy dx =
    scrollAddr (fy ||| gy) (ny ||| my) (nx ||| mx) (cy ||| dy) (cx ||| dx) := by
  show (fy ++ ny ++ nx ++ cy ++ cx) ||| (gy ++ my ++ mx ++ dy ++ dx) = _
  simp only [BitVec.or_append]
  rfl

theorem scrollAddr_xor : scrollAddr fy ny nx cy cx ^^^ scrollAddr gy my mx dy dx =
    scrollAddr (fy ^^^ gy) (ny ^^^ my) (nx ^^^ mx) (cy ^^^ dy) (cx ^^^ dx) := by
  show (fy ++ ny ++ nx ++ cy ++ cx) ^^^ (gy ++ my ++ mx ++ dy ++ dx) = _
  simp only [BitVec.xor_append]
  rfl

theorem exists_scrollAddr (v : BitVec 15) : ∃ fy ny nx cy cx, v = scrollAddr fy ny nx cy cx := by
  refine ⟨v.extractLsb' 12 3, v.extractLsb' 11 1, v.extractLsb' 10 1, v.extractLsb' 5 5, v.extractLsb' 0 5, ?_⟩
  apply BitVec.eq_of_toNat_eq
  simp only [scrollAddr_toNat, BitVec.extractLsb'_toNat, Nat.shiftRight_eq_div_pow]
  omega

/-! ## The scroll updates -/

/-- CopyX (R433). -/
theorem copyX_scrollAddr : copyX (scrollAddr fy ny nx cy cx) (scrollAddr gy my mx dy dx) = scrollAddr fy ny mx cy dx := by
  rw [copyX, show (0x7BE0 : BitVec 15) = scrollAddr (.allOnes 3) (.allOnes 1) 0 (.allOnes 5) 0 from rfl,
    show (0x041F : BitVec 15) = scrollAddr 0 0 (.allOnes 1) 0 (.allOnes 5) from rfl]
  simp [scrollAddr_and, scrollAddr_or, -BitVec.reduceAllOnes]

/-- CopyY (R434). -/
theorem copyY_scrollAddr : copyY (scrollAddr fy ny nx cy cx) (scrollAddr gy my mx dy dx) = scrollAddr gy my nx dy cx := by
  rw [copyY, show (0x7BE0 : BitVec 15) = scrollAddr (.allOnes 3) (.allOnes 1) 0 (.allOnes 5) 0 from rfl,
    show (0x041F : BitVec 15) = scrollAddr 0 0 (.allOnes 1) 0 (.allOnes 5) from rfl]
  simp [scrollAddr_and, scrollAddr_or, -BitVec.reduceAllOnes]

/-- IncX (R431). -/
theorem incX_scrollAddr : incX (scrollAddr fy ny nx cy cx) =
    if cx = 31 then scrollAddr fy ny (~~~nx) cy 0 else scrollAddr fy ny nx cy (cx + 1) := by
  have coarse : scrollAddr fy ny nx cy cx &&& 0x001F = cx.setWidth 15 := by
    apply BitVec.eq_of_toNat_eq
    rw [and_two_pow_sub_one_toNat _ 0x001F 5 rfl, scrollAddr_toNat, BitVec.toNat_setWidth_of_le (by decide)]
    omega
  have last : cx.setWidth 15 = 31 ↔ cx = 31 := by bv_omega
  rw [incX, coarse]
  simp only [last]
  split_ifs with h
  · rw [show ~~~0x001F#15 = scrollAddr (.allOnes 3) (.allOnes 1) (.allOnes 1) (.allOnes 5) 0 from rfl,
      show (0x0400 : BitVec 15) = scrollAddr 0 0 (.allOnes 1) 0 0 from rfl]
    simp [scrollAddr_and, scrollAddr_xor, -BitVec.reduceAllOnes]
  · have v := scrollAddr_toNat fy ny nx cy cx
    have u := scrollAddr_toNat fy ny nx cy (cx + 1)
    have step : (cx + 1).toNat = cx.toNat + 1 := by bv_omega
    bv_omega

/-- IncY (R432) steps fine Y. -/
theorem incY_scrollAddr_of_ne (h : fy ≠ 7) : incY (scrollAddr fy ny nx cy cx) = scrollAddr (fy + 1) ny nx cy cx := by
  have v := scrollAddr_toNat fy ny nx cy cx
  have u := scrollAddr_toNat (fy + 1) ny nx cy cx
  have step : (fy + 1).toNat = fy.toNat + 1 := by bv_omega
  have fine : (scrollAddr fy ny nx cy cx >>> 12).toNat < 7 := by
    rw [BitVec.toNat_ushiftRight, Nat.shiftRight_eq_div_pow]
    bv_omega
  rw [incY, if_pos fine]
  bv_omega

/-- IncY (R432) wraps fine Y into coarse Y, whose 30 rows wrap into the other nametable. -/
theorem incY_scrollAddr_last : incY (scrollAddr 7 ny nx cy cx) =
    if cy = 29 then scrollAddr 0 (~~~ny) nx 0 cx
    else if cy = 31 then scrollAddr 0 ny nx 0 cx
    else scrollAddr 0 ny nx (cy + 1) cx := by
  have fine : ¬ (scrollAddr 7 ny nx cy cx >>> 12).toNat < 7 := by
    rw [BitVec.toNat_ushiftRight, Nat.shiftRight_eq_div_pow, scrollAddr_toNat,
      show BitVec.toNat (7 : BitVec 3) = 7 from rfl]
    omega
  have cleared : scrollAddr 7 ny nx cy cx &&& ~~~0x7000#15 = scrollAddr 0 ny nx cy cx := by
    rw [show ~~~0x7000#15 = scrollAddr 0 (.allOnes 1) (.allOnes 1) (.allOnes 5) (.allOnes 5) from rfl]
    simp [scrollAddr_and, -BitVec.reduceAllOnes]
  have coarse : (scrollAddr 0 ny nx cy cx >>> 5) &&& 0x1F = cy.setWidth 15 := by
    apply BitVec.eq_of_toNat_eq
    rw [and_two_pow_sub_one_toNat _ 0x1F 5 rfl, BitVec.toNat_ushiftRight, Nat.shiftRight_eq_div_pow, scrollAddr_toNat,
      BitVec.toNat_setWidth_of_le (by decide)]
    omega
  have row (n : BitVec 5) : cy.setWidth 15 = n.setWidth 15 ↔ cy = n := by bv_omega
  have rows : ~~~0x03E0#15 = scrollAddr (.allOnes 3) (.allOnes 1) (.allOnes 1) 0 (.allOnes 5) := rfl
  rw [incY, if_neg fine, cleared, rows]
  dsimp only
  rw [coarse, show (29 : BitVec 15) = BitVec.setWidth 15 (29 : BitVec 5) from rfl,
    show (31 : BitVec 15) = BitVec.setWidth 15 (31 : BitVec 5) from rfl]
  simp only [row]
  split_ifs with h29 h31
  · rw [show (0x0800 : BitVec 15) = scrollAddr 0 (.allOnes 1) 0 0 0 from rfl]
    simp [scrollAddr_and, scrollAddr_xor, -BitVec.reduceAllOnes]
  · simp [scrollAddr_and, -BitVec.reduceAllOnes]
  · have step : (cy.setWidth 15 + 1) <<< 5 = scrollAddr 0 0 0 (cy + 1) 0 := by
      have next : (cy + 1).toNat = cy.toNat + 1 := by bv_omega
      have row15 : (cy.setWidth 15 + 1).toNat = cy.toNat + 1 := by bv_omega
      apply BitVec.eq_of_toNat_eq
      rw [BitVec.toNat_shiftLeft, row15, Nat.shiftLeft_eq, scrollAddr_toNat, next]
      simp only [BitVec.ofNat_eq_ofNat, BitVec.toNat_ofNat]
      omega
    rw [step]
    simp [scrollAddr_and, scrollAddr_or, -BitVec.reduceAllOnes]

end Fields

/-- Settles O34: each update on the fields that `v` and `t` are made of. -/
theorem scrollUpdates : Obligations.ScrollUpdates := by
  intro v t
  obtain ⟨fy, ny, nx, cy, cx, rfl⟩ := exists_scrollAddr v
  obtain ⟨gy, my, mx, dy, dx, rfl⟩ := exists_scrollAddr t
  have flip (b : BitVec 1) : (~~~b).toNat = 1 - b.toNat := BitVec.toNat_not
  refine ⟨?_, ?_, ?_, ?_⟩ <;> dsimp only
  · rw [incX_scrollAddr]
    split_ifs with h
    · subst h
      simp only [scrollAddr_toNat, flip, BitVec.ofNat_eq_ofNat, BitVec.toNat_ofNat]
      omega
    · have step : (cx + 1).toNat = cx.toNat + 1 := by bv_omega
      simp only [scrollAddr_toNat, step]
      omega
  · by_cases h : fy = 7
    · subst h
      rw [incY_scrollAddr_last]
      split_ifs with h29 h31
      · subst h29
        simp only [scrollAddr_toNat, flip, BitVec.ofNat_eq_ofNat, BitVec.toNat_ofNat]
        omega
      · subst h31
        simp only [scrollAddr_toNat, BitVec.ofNat_eq_ofNat, BitVec.toNat_ofNat]
        omega
      · have step : (cy + 1#5).toNat = cy.toNat + 1 := by bv_omega
        have last : cy.toNat ≠ 29 := by bv_omega
        simp only [scrollAddr_toNat, BitVec.ofNat_eq_ofNat, BitVec.toNat_ofNat, step]
        omega
    · have step : (fy + 1).toNat = fy.toNat + 1 := by bv_omega
      rw [incY_scrollAddr_of_ne _ _ _ _ _ h]
      simp only [scrollAddr_toNat, step]
      omega
  · rw [copyX_scrollAddr]
    simp only [scrollAddr_toNat]
    omega
  · rw [copyY_scrollAddr]
    simp only [scrollAddr_toNat]
    omega

end Sys2Proof.Machine
end

section
/-! The CPU-visible PPU registers (R400 to R415): each read and write as one exact next state, at every address that selects
the register. -/

namespace Sys2Proof.Machine

/-! ## Reaching a register -/

theorem isPpuReg_iff (a : Word) (n : Nat) :
    isPpuReg a n = true ↔ 0x2000 ≤ a.toNat ∧ a.toNat ≤ 0x3FFF ∧ a.toNat % 8 = n := by
  simp only [isPpuReg, Bool.and_eq_true, decide_eq_true_eq, and_assoc]

theorem busRead_of_isPpuReg {a : Word} {n : Nat} (h : isPpuReg a n = true) (s : State) :
    busRead a s = .ok (readPpuReg n s).1 (readPpuReg n s).2 := by
  obtain ⟨lo, hi, rfl⟩ := (isPpuReg_iff a n).1 h
  exact busRead_ppuReg lo hi s

theorem busWrite_of_isPpuReg {a : Word} {n : Nat} (h : isPpuReg a n = true) (d : Byte) (s : State) :
    busWrite a d s = .ok () (writePpuReg n d s) := by
  obtain ⟨lo, hi, rfl⟩ := (isPpuReg_iff a n).1 h
  exact busWrite_ppuReg lo hi d s

/-! ## PPUSTATUS (R403) -/

/-- A flag at its bit of the status byte. -/
theorem flag_toNat (b : Bool) (k : Byte) : (if b then k else 0).toNat = k.toNat * b.toNat := by
  cases b <;> simp

/-- The three flags lie above the latch's five bits, each above the next. -/
theorem statusByte_eq (p : Ppu) : p.statusByte = BitVec.ofNat 8
    (128 * p.vblank.toNat + 64 * p.spr0Hit.toNat + 32 * p.sprOverflow.toNat + p.latch.toNat % 32) := by
  have low : (p.latch &&& 0x1F).toNat = p.latch.toNat % 32 := and_two_pow_sub_one_toNat p.latch 0x1F 5 rfl
  have hv := p.vblank.toNat_le
  have hs := p.spr0Hit.toNat_le
  have ho := p.sprOverflow.toNat_le
  apply BitVec.eq_of_toNat_eq
  calc p.statusByte.toNat
    _ = p.latch.toNat % 32 ||| 2 ^ 5 * p.sprOverflow.toNat ||| 2 ^ 6 * p.spr0Hit.toNat ||| 2 ^ 7 * p.vblank.toNat := by
      rw [Ppu.statusByte, BitVec.toNat_or, BitVec.toNat_or, BitVec.toNat_or, low, flag_toNat, flag_toNat, flag_toNat]
      rfl
    _ = p.latch.toNat % 32 + 2 ^ 5 * p.sprOverflow.toNat + 2 ^ 6 * p.spr0Hit.toNat + 2 ^ 7 * p.vblank.toNat := by
      rw [or_two_pow_mul (k := 5) (by omega), or_two_pow_mul (k := 6) (by omega), or_two_pow_mul (k := 7) (by omega)]
    _ = _ := by
      rw [BitVec.toNat_ofNat]
      omega

theorem readStatus_state (s : State) : (readStatus s).2 =
    { s with ppu := { s.ppu with vblank := false, w := false, nmiPrevious := false } } := by
  simp [readStatus, Ppu.nmiChange, State.setPpu]

theorem readPpuReg_status (s : State) : readPpuReg 2 s = (s.ppu.statusByte, (readStatus s).2) := rfl

/-- Settles O24: the flags by their bits; without vblank the NMI condition is off, so nothing rises. -/
theorem ppuStatusRead : Obligations.PpuStatusRead := by
  intro s a h
  rw [busRead_of_isPpuReg h, readPpuReg_status, statusByte_eq, readStatus_state]

/-! ## PPUCTRL and PPUMASK (R401, R402) -/

/-- The nametable bits of a PPUCTRL write (R401). -/
theorem ctrlAddr_eq (t : BitVec 15) (d : Byte) : (t &&& 0x73FF#15) ||| ((d &&& 3).setWidth 15 <<< 10) =
    BitVec.ofNat 15 (t.toNat / 4096 * 4096 + d.toNat % 4 * 1024 + t.toNat % 1024) := by
  obtain ⟨fy, ny, nx, cy, cx, rfl⟩ := exists_scrollAddr t
  have low : (d &&& 3).toNat = d.toNat % 4 := and_two_pow_sub_one_toNat d 3 2 rfl
  have y : (d.extractLsb' 1 1).toNat = d.toNat / 2 % 2 := by
    rw [BitVec.extractLsb'_toNat, Nat.shiftRight_eq_div_pow]
  have x : (d.extractLsb' 0 1).toNat = d.toNat % 2 := BitVec.extractLsb'_toNat 0 1 d
  have nametable : (d &&& 3).setWidth 15 <<< 10 = scrollAddr 0#3 (d.extractLsb' 1 1) (d.extractLsb' 0 1) 0#5 0#5 := by
    apply BitVec.eq_of_toNat_eq
    rw [setWidth_shiftLeft_toNat (by omega), low, scrollAddr_toNat, y, x]
    simp only [BitVec.toNat_ofNat]
    omega
  have fields : (scrollAddr fy ny nx cy cx &&& 0x73FF#15) ||| ((d &&& 3).setWidth 15 <<< 10) =
      scrollAddr fy (d.extractLsb' 1 1) (d.extractLsb' 0 1) cy cx := by
    rw [nametable, show 0x73FF#15 = scrollAddr (.allOnes 3) 0 0 (.allOnes 5) (.allOnes 5) from rfl]
    simp [scrollAddr_and, scrollAddr_or, -BitVec.reduceAllOnes]
  apply BitVec.eq_of_toNat_eq
  rw [fields, scrollAddr_toNat, scrollAddr_toNat, y, x, BitVec.toNat_ofNat]
  omega

/-- PPUCTRL write: the fields, `t`, and the NMI condition evaluated again (R401, R457). -/
theorem writePpuReg_ctrl (s : State) (d : Byte) : writePpuReg 0 d s = { s with ppu := { s.ppu with
        latch := d
        ctrl := {
          nt := BitVec.ofNat 2 d.toNat, inc := d.toNat.testBit 2, sprTable := d.toNat.testBit 3
          bgTable := d.toNat.testBit 4, sprSize := d.toNat.testBit 5, master := d.toNat.testBit 6
          nmiOutput := d.toNat.testBit 7 }
        t := BitVec.ofNat 15 (s.ppu.t.toNat / 4096 * 4096 + d.toNat % 4 * 1024 + s.ppu.t.toNat % 1024)
        nmiPrevious := d.toNat.testBit 7 && s.ppu.vblank
        nmiDelay := if d.toNat.testBit 7 && s.ppu.vblank && !s.ppu.nmiPrevious then s.params.nmiDelayDots
          else s.ppu.nmiDelay } } := by
  rw [← ctrlAddr_eq]
  rfl

/-- Settles O25: PPUCTRL by its fields and the bits of `t`; PPUMASK's bits are the statement's. -/
theorem ppuCtrlAndMaskWrites : Obligations.PpuCtrlAndMaskWrites := by
  intro s a d
  refine ⟨fun h => ?_, fun h => ?_⟩
  · rw [busWrite_of_isPpuReg h, writePpuReg_ctrl]
  · rw [busWrite_of_isPpuReg h]
    rfl

/-! ## OAMDATA (R405, R406) -/

theorem and_0xE3_eq (r : Byte) : r &&& 0xE3 = BitVec.ofNat 8 (r.toNat / 32 * 32 + r.toNat % 4) := by
  revert r
  decide

/-- OAMDATA read: the cursor's byte, the third byte of a sprite without bits 4-2 (R405). -/
theorem readOamData_eq (s : State) : readOamData s =
    (if s.ppu.oamAddr.toNat % 4 = 2 then
      BitVec.ofNat 8 ((s.ppu.oam.read s.ppu.oamAddr.toNat).toNat / 32 * 32 +
        (s.ppu.oam.read s.ppu.oamAddr.toNat).toNat % 4)
    else s.ppu.oam.read s.ppu.oamAddr.toNat, s) := by
  have third : s.ppu.oamAddr &&& 3 = 2 ↔ s.ppu.oamAddr.toNat % 4 = 2 := by
    rw [← BitVec.toNat_inj, and_two_pow_sub_one_toNat s.ppu.oamAddr 3 2 rfl]
    rfl
  simp only [readOamData, third, and_0xE3_eq]

theorem readPpuReg_oamData (s : State) : readPpuReg 4 s = readOamData s := rfl

/-- Settles O26: the writes are the model's own; the third byte of a sprite is masked; the other reads draw. -/
theorem oamAndOtherRegisters : Obligations.OamAndOtherRegisters := by
  intro s a d
  refine ⟨fun h => busWrite_of_isPpuReg h d s, fun h => ⟨?_, ?_⟩, fun h => ⟨Config.draw s.draws, ?_⟩,
    fun h => busWrite_of_isPpuReg h d s⟩
  · rw [busRead_of_isPpuReg h, readPpuReg_oamData, readOamData_eq]
  · rw [busWrite_of_isPpuReg h, ← byte_add_one_eq]
    rfl
  · obtain h | h | h | h | h := h
    all_goals exact busRead_of_isPpuReg h s

/-! ## PPUSCROLL and PPUADDR (R407 to R410) -/

/-- The fine scroll of the byte of a PPUSCROLL write. -/
theorem fineScroll_toNat (d : Byte) : (d.extractLsb' 0 3).toNat = d.toNat % 8 := BitVec.extractLsb'_toNat 0 3 d

/-- The coarse scroll of the byte of a PPUSCROLL write. -/
theorem coarseScroll_toNat (d : Byte) : (d.extractLsb' 3 5).toNat = d.toNat / 8 := by
  rw [BitVec.extractLsb'_toNat, Nat.shiftRight_eq_div_pow]
  omega

theorem ushiftRight_three_toNat (d : Byte) : (d >>> 3).toNat = d.toNat / 8 := by
  rw [BitVec.toNat_ushiftRight, Nat.shiftRight_eq_div_pow]

/-- Coarse X of a PPUSCROLL write (R407). -/
theorem scrollXAddr_eq (t : BitVec 15) (d : Byte) : (t &&& 0x7FE0#15) ||| (d >>> 3).setWidth 15 =
    BitVec.ofNat 15 (t.toNat / 32 * 32 + d.toNat / 8) := by
  obtain ⟨fy, ny, nx, cy, cx, rfl⟩ := exists_scrollAddr t
  have coarse : (d >>> 3).setWidth 15 = scrollAddr 0#3 0#1 0#1 0#5 (d.extractLsb' 3 5) := by
    apply BitVec.eq_of_toNat_eq
    rw [BitVec.toNat_setWidth_of_le (by decide), ushiftRight_three_toNat, scrollAddr_toNat, coarseScroll_toNat]
    simp only [BitVec.toNat_ofNat]
    omega
  have fields : (scrollAddr fy ny nx cy cx &&& 0x7FE0#15) ||| (d >>> 3).setWidth 15 =
      scrollAddr fy ny nx cy (d.extractLsb' 3 5) := by
    rw [coarse, show 0x7FE0#15 = scrollAddr (.allOnes 3) (.allOnes 1) (.allOnes 1) (.allOnes 5) 0 from rfl]
    simp [scrollAddr_and, scrollAddr_or, -BitVec.reduceAllOnes]
  apply BitVec.eq_of_toNat_eq
  rw [fields, scrollAddr_toNat, scrollAddr_toNat, coarseScroll_toNat, BitVec.toNat_ofNat]
  omega

/-- Fine and coarse Y of a PPUSCROLL write (R408). -/
theorem scrollYAddr_eq (t : BitVec 15) (d : Byte) :
    (t &&& 0x0C1F#15) ||| ((d &&& 7).setWidth 15 <<< 12) ||| ((d >>> 3).setWidth 15 <<< 5) =
    BitVec.ofNat 15 (d.toNat % 8 * 4096 + t.toNat / 1024 % 4 * 1024 + d.toNat / 8 * 32 + t.toNat % 32) := by
  obtain ⟨fy, ny, nx, cy, cx, rfl⟩ := exists_scrollAddr t
  have low : (d &&& 7).toNat = d.toNat % 8 := and_two_pow_sub_one_toNat d 7 3 rfl
  have high := ushiftRight_three_toNat d
  have fine : (d &&& 7).setWidth 15 <<< 12 = scrollAddr (d.extractLsb' 0 3) 0#1 0#1 0#5 0#5 := by
    apply BitVec.eq_of_toNat_eq
    rw [setWidth_shiftLeft_toNat (by omega), low, scrollAddr_toNat, fineScroll_toNat]
    simp only [BitVec.toNat_ofNat]
    omega
  have coarse : (d >>> 3).setWidth 15 <<< 5 = scrollAddr 0#3 0#1 0#1 (d.extractLsb' 3 5) 0#5 := by
    apply BitVec.eq_of_toNat_eq
    rw [setWidth_shiftLeft_toNat (by omega), high, scrollAddr_toNat, coarseScroll_toNat]
    simp only [BitVec.toNat_ofNat]
    omega
  have fields : (scrollAddr fy ny nx cy cx &&& 0x0C1F#15) ||| ((d &&& 7).setWidth 15 <<< 12) |||
      ((d >>> 3).setWidth 15 <<< 5) = scrollAddr (d.extractLsb' 0 3) ny nx (d.extractLsb' 3 5) cx := by
    rw [fine, coarse, show 0x0C1F#15 = scrollAddr 0 (.allOnes 1) (.allOnes 1) 0 (.allOnes 5) from rfl]
    simp [scrollAddr_and, scrollAddr_or, -BitVec.reduceAllOnes]
  apply BitVec.eq_of_toNat_eq
  rw [fields, scrollAddr_nametable, scrollAddr_coarseX, scrollAddr_toNat, fineScroll_toNat, coarseScroll_toNat,
    BitVec.toNat_ofNat]
  omega

/-- The high half of a PPUADDR write (R409). -/
theorem addrHigh_eq (t : BitVec 15) (d : Byte) : (t &&& 0x00FF#15) ||| ((d &&& 0x3F).setWidth 15 <<< 8) =
    BitVec.ofNat 15 (d.toNat % 64 * 256 + t.toNat % 256) := by
  have low : (t &&& 0x00FF#15).toNat = t.toNat % 256 := and_two_pow_sub_one_toNat t 0x00FF 8 rfl
  have six : (d &&& 0x3F).toNat = d.toNat % 64 := and_two_pow_sub_one_toNat d 0x3F 6 rfl
  apply BitVec.eq_of_toNat_eq
  rw [BitVec.toNat_or, low, setWidth_shiftLeft_toNat (by omega), six, Nat.mul_comm, or_two_pow_mul (by omega),
    BitVec.toNat_ofNat]
  omega

/-- The low half of a PPUADDR write (R410). -/
theorem addrLow_eq (t : BitVec 15) (d : Byte) : (t &&& 0x7F00#15) ||| d.setWidth 15 =
    BitVec.ofNat 15 (t.toNat / 256 * 256 + d.toNat) := by
  have shifted : t &&& 0x7F00#15 = (t >>> 8) <<< 8 := by
    ext i hi
    interval_cases i <;> simp
  have high : (t &&& 0x7F00#15).toNat = 2 ^ 8 * (t.toNat / 256) := by
    rw [shifted, BitVec.toNat_shiftLeft, BitVec.toNat_ushiftRight, Nat.shiftLeft_eq, Nat.shiftRight_eq_div_pow]
    omega
  have low : (d.setWidth 15).toNat = d.toNat := BitVec.toNat_setWidth_of_le (by decide)
  apply BitVec.eq_of_toNat_eq
  rw [BitVec.toNat_or, low, high, Nat.or_comm, or_two_pow_mul d.isLt, BitVec.toNat_ofNat]
  omega

section Writes
variable {p : Ppu}

theorem writeScroll_first (h : p.w = false) (d : Byte) : p.writeScroll d = { p with
    t := BitVec.ofNat 15 (p.t.toNat / 32 * 32 + d.toNat / 8), x := BitVec.ofNat 3 (d.toNat % 8), w := true } := by
  have fine : d.setWidth 3 = BitVec.ofNat 3 (d.toNat % 8) := by bv_omega
  rw [Ppu.writeScroll, if_neg (by simp [h]), scrollXAddr_eq, fine]

theorem writeScroll_second (h : p.w = true) (d : Byte) : p.writeScroll d = { p with
    t := BitVec.ofNat 15 (d.toNat % 8 * 4096 + p.t.toNat / 1024 % 4 * 1024 + d.toNat / 8 * 32 + p.t.toNat % 32)
    w := false } := by
  rw [Ppu.writeScroll, if_pos h, scrollYAddr_eq]

theorem writeAddr_first (h : p.w = false) (d : Byte) : p.writeAddr d = { p with
    t := BitVec.ofNat 15 (d.toNat % 64 * 256 + p.t.toNat % 256), w := true } := by
  rw [Ppu.writeAddr, if_neg (by simp [h]), addrHigh_eq]

theorem writeAddr_second (h : p.w = true) (d : Byte) : p.writeAddr d = { p with
    t := BitVec.ofNat 15 (p.t.toNat / 256 * 256 + d.toNat)
    v := BitVec.ofNat 15 (p.t.toNat / 256 * 256 + d.toNat), w := false } := by
  rw [Ppu.writeAddr, if_pos h, addrLow_eq]

end Writes

theorem writePpuReg_scroll (d : Byte) (s : State) :
    writePpuReg 5 d s = (s.setLatch d).setPpu ((s.setLatch d).ppu.writeScroll d) := rfl

theorem writePpuReg_addr (d : Byte) (s : State) :
    writePpuReg 6 d s = (s.setLatch d).setPpu ((s.setLatch d).ppu.writeAddr d) := rfl

/-- Settles O27: the two halves of each, by the toggle; the latch does not enter. -/
theorem scrollAndAddressWrites : Obligations.ScrollAndAddressWrites := by
  intro s a d
  refine ⟨fun h w => ?_, fun h w => ?_, fun h w => ?_, fun h w => ?_⟩
  · rw [busWrite_of_isPpuReg h, writePpuReg_scroll, writeScroll_first (p := (s.setLatch d).ppu) w]
    rfl
  · rw [busWrite_of_isPpuReg h, writePpuReg_scroll, writeScroll_second (p := (s.setLatch d).ppu) w]
    rfl
  · rw [busWrite_of_isPpuReg h, writePpuReg_addr, writeAddr_first (p := (s.setLatch d).ppu) w]
    rfl
  · rw [busWrite_of_isPpuReg h, writePpuReg_addr, writeAddr_second (p := (s.setLatch d).ppu) w]
    rfl

/-! ## PPUDATA (R411, R412) -/

theorem dataAddr_toNat (p : Ppu) : p.dataAddr.toNat = p.v.toNat % 0x4000 := BitVec.toNat_setWidth 14 p.v

theorem stepV_eq (p : Ppu) : p.stepV = { p with v := steppedV p } := by
  have step : p.v + (if p.ctrl.inc then 32 else 1) = steppedV p := by
    unfold steppedV
    split_ifs <;> bv_omega
  rw [Ppu.stepV, step]

section Bus
variable {a : BitVec 14}

/-- Below the palette a PPU-bus read gives the CHR or CIRAM byte and changes nothing (R110). -/
theorem ppuBusRead_below (h : a.toNat < 0x3F00) (s : State) : ppuBusRead a s = (videoByte s a.toNat, s) := by
  rw [ppuBusRead, if_pos h, tableRead, videoByte]
  simp only [Nat.lt_succ_iff]

/-- The byte of a palette read: the entry's six bits under two of a draw `d` (R115). -/
def paletteByte (d : Byte) (entry : BitVec 6) : Byte := (d &&& 0xC0) ||| entry.setWidth 8

theorem paletteByte_low (d : Byte) (entry : BitVec 6) : (paletteByte d entry).toNat % 64 = entry.toNat := by
  have drawn : (d &&& 0xC0).toNat % 2 ^ 6 = 0 := by
    rw [BitVec.toNat_and, Nat.and_mod_two_pow]
    exact Nat.and_zero _
  rw [paletteByte, BitVec.toNat_or, BitVec.toNat_setWidth_of_le (by decide)]
  calc _ = ((d &&& 0xC0).toNat % 2 ^ 6) ||| (entry.toNat % 2 ^ 6) := Nat.or_mod_two_pow
    _ = entry.toNat := by rw [drawn, Nat.zero_or, Nat.mod_eq_of_lt entry.isLt]

/-- A palette read uses one draw (R110, R115). -/
theorem ppuBusRead_palette (h : 0x3F00 ≤ a.toNat) (s : State) : ppuBusRead a s =
    (paletteByte (Config.draw s.draws) (s.ppu.pal.read (palIndex a.toNat)), { s with draws := s.draws + 1 }) := by
  rw [ppuBusRead, if_neg (not_lt.2 h)]
  rfl

end Bus

theorem readData_below {s : State} (h : s.ppu.v.toNat % 0x4000 < 0x3F00) : readData s =
    (s.ppu.buffer, { s with ppu := { s.ppu with
      buffer := videoByte s (s.ppu.v.toNat % 0x4000), v := steppedV s.ppu } }) := by
  rw [← dataAddr_toNat] at *
  rw [readData, if_pos h, ppuBusRead_below h]
  dsimp only
  rw [stepV_eq]
  rfl

theorem steppedV_buffer (p : Ppu) (b : Byte) : steppedV { p with buffer := b } = steppedV p := rfl

theorem videoByte_draws (s : State) (n a : Nat) : videoByte { s with draws := n } a = videoByte s a := rfl

theorem readData_palette {s : State} (h : 0x3F00 ≤ s.ppu.v.toNat % 0x4000) : readData s =
    (paletteByte (Config.draw s.draws) (s.ppu.pal.read (palIndex (s.ppu.v.toNat % 0x4000))),
      { s with
        draws := s.draws + 1
        ppu := { s.ppu with
          buffer := videoByte s (s.ppu.v.toNat % 0x4000 - 0x1000), v := steppedV s.ppu } }) := by
  rw [← dataAddr_toNat] at *
  have lower : (s.ppu.dataAddr - 0x1000).toNat = s.ppu.dataAddr.toNat - 0x1000 := by bv_omega
  rw [readData, if_neg (not_lt.2 h), ppuBusRead_palette h]
  dsimp only
  rw [ppuBusRead_below (by omega), stepV_eq, lower]
  dsimp only
  rw [videoByte_draws, steppedV_buffer]
  rfl

theorem readPpuReg_data (s : State) : readPpuReg 7 s = readData s := rfl

theorem writePpuReg_data (d : Byte) (s : State) : writePpuReg 7 d s = writeData d (s.setLatch d) := rfl

/-- Settles O28: below the palette the buffer, in the palette the entry under two drawn bits. -/
theorem ppuDataRead : Obligations.PpuDataRead := by
  intro s a h
  refine ⟨fun below => ?_, fun palette => ⟨_, paletteByte_low (Config.draw s.draws) _, ?_⟩⟩
  · rw [busRead_of_isPpuReg h, readPpuReg_data, readData_below below]
  · rw [busRead_of_isPpuReg h, readPpuReg_data, readData_palette palette]

/-- Settles O29, by the three ranges of the PPU bus. -/
theorem ppuDataWrite : Obligations.PpuDataWrite := by
  intro s a d h
  rw [busWrite_of_isPpuReg h, writePpuReg_data, writeData, stepV_eq, ppuBusWrite]
  have addr : (s.setLatch d).ppu.dataAddr.toNat = s.ppu.v.toNat % 0x4000 := dataAddr_toNat s.ppu
  rw [addr]
  refine ⟨fun chr => ?_, fun lo hi => ?_, fun palette => ?_⟩
  · rw [if_pos (by omega)]
    by_cases banks : s.cart.chrBanks = 0
    · rw [if_pos banks, if_pos (by simp [Cart.chrIsRam, banks])]
      rfl
    · rw [if_neg banks, if_neg (by simp [Cart.chrIsRam, banks])]
      rfl
  · rw [if_neg (by omega), if_pos (by omega)]
    rfl
  · rw [if_neg (by omega), if_neg (by omega)]
    rfl

end Sys2Proof.Machine
end

section
/-! OAM DMA (R416, R417) from plain memory: the bytes copied, where they land, and the stall. -/

namespace Sys2Proof.Machine

/-! ## Writing bytes to OAM in order -/

/-- The PPU after these bytes are written through OAMDATA, first to last. -/
def Ppu.writeOamBytes (bytes : List Byte) (p : Ppu) : Ppu := bytes.foldl (fun q d => q.writeOamData d) p

theorem writeOamBytes_cons (b : Byte) (bytes : List Byte) (p : Ppu) :
    p.writeOamBytes (b :: bytes) = (p.writeOamData b).writeOamBytes bytes := rfl

/-- The cursor has stepped once per byte; nothing but it and OAM has changed (R406). -/
theorem writeOamBytes_frame (bytes : List Byte) (p : Ppu) : p.writeOamBytes bytes =
    { p with oam := (p.writeOamBytes bytes).oam, oamAddr := p.oamAddr + BitVec.ofNat 8 bytes.length } := by
  induction bytes generalizing p with
  | nil => simp [Ppu.writeOamBytes]
  | cons b bytes ih =>
    rw [writeOamBytes_cons, ih]
    have cursor : (p.writeOamData b).oamAddr + BitVec.ofNat 8 bytes.length =
        p.oamAddr + BitVec.ofNat 8 (b :: bytes).length := by
      rw [Ppu.writeOamData, List.length_cons]
      bv_omega
    rw [cursor]
    rfl

theorem writeOamData_cursor (p : Ppu) (b : Byte) (i : Nat) :
    ((p.writeOamData b).oamAddr.toNat + i) % 256 = (p.oamAddr.toNat + (i + 1)) % 256 := by
  rw [Ppu.writeOamData]
  dsimp only
  rw [BitVec.toNat_add, show BitVec.toNat (1 : Byte) = 1 from rfl]
  omega

/-- Bytes behind the cursor's run stay as they were. -/
theorem writeOamBytes_other {bytes : List Byte} {p : Ppu} (wf : p.oam.wf = true) {a : Nat}
    (h : ∀ i, i < bytes.length → a ≠ (p.oamAddr.toNat + i) % 256) :
    (p.writeOamBytes bytes).oam.read a = p.oam.read a := by
  induction bytes generalizing p with
  | nil => rfl
  | cons b bytes ih =>
    have first : a ≠ p.oamAddr.toNat := by
      have := h 0 (by simp)
      omega
    rw [writeOamBytes_cons, ih (Cells.wf_write wf _ _), Ppu.writeOamData, Cells.read_write_other wf first]
    intro i hi
    rw [writeOamData_cursor]
    exact h (i + 1) (by simpa using hi)

/-- Byte `i` of at most 256 lands at the cursor plus `i`, modulo 256 (R406). -/
theorem writeOamBytes_read {bytes : List Byte} {p : Ppu} (wf : p.oam.wf = true) (le : bytes.length ≤ 256) {i : Nat}
    (hi : i < bytes.length) : (p.writeOamBytes bytes).oam.read ((p.oamAddr.toNat + i) % 256) = bytes[i] := by
  induction bytes generalizing p i with
  | nil => exact absurd hi (Nat.not_lt_zero i)
  | cons b bytes ih =>
    have wf' : (p.writeOamData b).oam.wf = true := Cells.wf_write wf _ _
    rw [List.length_cons] at le hi
    cases i with
    | zero =>
      rw [writeOamBytes_cons, writeOamBytes_other wf', Nat.add_zero, Nat.mod_eq_of_lt p.oamAddr.isLt]
      · exact Cells.read_write_same wf _ _
      · intro i hi
        rw [writeOamData_cursor]
        omega
    | succ i =>
      rw [writeOamBytes_cons, ← writeOamData_cursor p b i, ih wf' (by omega)]
      rfl

/-! ## The copy -/

theorem peek_setPpu (s : State) (p : Ppu) (a : Word) : peek (s.setPpu p) a = peek s a := rfl

/-- A copy of plain bytes writes them to OAM and changes nothing else (R416). -/
theorem dmaCopy_of_peek {base : Word} {bytes : List Byte} {i : Nat} {s : State}
    (h : ∀ k (hk : k < bytes.length), peek s (base + BitVec.ofNat 16 (i + k)) = some bytes[k]) :
    dmaCopy base bytes.length i s = .ok () (s.setPpu (s.ppu.writeOamBytes bytes)) := by
  induction bytes generalizing i s with
  | nil => rfl
  | cons b bytes ih =>
    have first : busRead (base + BitVec.ofNat 16 i) s = .ok b s := busRead_of_peek (h 0 (by simp))
    rw [List.length_cons, dmaCopy, first, Res.andThen_ok, ih]
    · rfl
    · intro k hk
      rw [peek_setPpu, Nat.add_assoc, Nat.add_comm 1 k]
      exact h (k + 1) (by simpa using hk)

theorem dmaStall_eq (s : State) : dmaStall s = if s.cycles % 2 = 0 then 513 else 514 := by
  unfold dmaStall
  split_ifs <;> omega

/-- A page's addresses, from its number. -/
theorem page_addr (page : Byte) (i : Nat) : wordOf page 0 + BitVec.ofNat 16 i = BitVec.ofNat 16 (256 * page.toNat + i) := by
  apply BitVec.eq_of_toNat_eq
  rw [BitVec.toNat_add, wordOf_toNat, BitVec.toNat_ofNat, BitVec.toNat_ofNat, show BitVec.toNat (0 : Byte) = 0 from rfl]
  omega

/-- The state after an OAM DMA of these bytes. -/
def afterDma (bytes : List Byte) (s : State) : State := { s with
  stall := s.stall + (if s.cycles % 2 = 0 then 513 else 514)
  ppu := { s.ppu with oam := (s.ppu.writeOamBytes bytes).oam } }

theorem afterDma_frame (bytes : List Byte) (s : State) : afterDma bytes s = { s with
    stall := s.stall + (if s.cycles % 2 = 0 then 513 else 514)
    ppu := { s.ppu with oam := (afterDma bytes s).ppu.oam } } := rfl

theorem afterDma_oam (bytes : List Byte) (s : State) : (afterDma bytes s).ppu.oam = (s.ppu.writeOamBytes bytes).oam := rfl

/-- An OAM DMA of 256 plain bytes: the cursor comes back to where it was (R416, R417). -/
theorem oamDma_of_peek {page : Byte} {bytes : List Byte} {s : State} (length : bytes.length = 256)
    (h : ∀ i (hi : i < bytes.length), peek s (BitVec.ofNat 16 (256 * page.toNat + i)) = some bytes[i]) :
    oamDma page s = .ok () (afterDma bytes s) := by
  have copy : dmaCopy (wordOf page 0) 256 0 s = .ok () (s.setPpu (s.ppu.writeOamBytes bytes)) := by
    rw [← length]
    refine dmaCopy_of_peek fun k hk => ?_
    rw [page_addr, Nat.zero_add]
    exact h k hk
  have cursor : s.ppu.oamAddr + BitVec.ofNat 8 bytes.length = s.ppu.oamAddr := by
    rw [length]
    bv_omega
  rw [oamDma, copy, Res.andThen_ok, dmaStall_eq, writeOamBytes_frame, cursor]
  rfl

/-- The bytes of a page that a DMA reads, where they are plain memory. -/
def pageBytes (s : State) (page : Byte) : List Byte :=
  (List.range 256).map fun i => (peek s (BitVec.ofNat 16 (256 * page.toNat + i))).getD 0

theorem pageBytes_length (s : State) (page : Byte) : (pageBytes s page).length = 256 := by simp [pageBytes]

theorem peek_pageBytes {s : State} {page : Byte}
    (plain : ∀ i, i < 256 → (peek s (BitVec.ofNat 16 (256 * page.toNat + i))).isSome = true) {i : Nat}
    (hi : i < (pageBytes s page).length) :
    peek s (BitVec.ofNat 16 (256 * page.toNat + i)) = some (pageBytes s page)[i] := by
  obtain ⟨v, hv⟩ := Option.isSome_iff_exists.1 (plain i (pageBytes_length s page ▸ hi))
  simp [pageBytes, hv]

/-- Settles O23: the page's bytes are plain, so the copy writes them to OAM from the cursor on. -/
theorem oamDmaCopies : Obligations.OamDmaCopies := by
  intro s page inv plain
  have length := pageBytes_length s page
  refine ⟨afterDma (pageBytes s page) s, ?_, afterDma_frame _ s, fun i hi => ?_⟩
  · rw [busWrite_dma]
    exact oamDma_of_peek length fun i hi => peek_pageBytes plain hi
  · have inside : i < (pageBytes s page).length := length.symm ▸ hi
    rw [peek_pageBytes plain inside, afterDma_oam, writeOamBytes_read (Cells.good_wf inv.ppu.oam) length.le inside]

end Sys2Proof.Machine
end

section
/-! The dot clock (R420 to R423, R450 to R458): what a tick leaves in each field, where the PPU stands after a number of
ticks, the vblank events and the NMI they pass on, and the pixel of a dot. -/

namespace Sys2Proof.Machine

/-! ## The parts of a tick -/

/-- The rendering part of a dot (R423): nothing with rendering disabled. -/
def renderPart (c : Cart) (p : Ppu) : Ppu := if p.rendering then renderWork c p else p

theorem tick_ppu (s : State) : (tick s).ppu =
    vblankWork s.params.nmiDelayDots (renderPart s.cart s.ppu.countdown.advance) := rfl

theorem renderPart_frame (c : Cart) (p : Ppu) : renderPart c p = { p with
    v := (renderPart c p).v, bg := (renderPart c p).bg, sprCount := (renderPart c p).sprCount
    sprites := (renderPart c p).sprites, spr0Hit := (renderPart c p).spr0Hit
    sprOverflow := (renderPart c p).sprOverflow } := by
  unfold renderPart
  split_ifs
  · exact renderWork_frame c p
  · rfl

theorem renderPart_of_disabled {p : Ppu} (bg : p.mask.bg = false) (spr : p.mask.spr = false) (c : Cart) :
    renderPart c p = p := by
  rw [renderPart, if_neg (by simp [Ppu.rendering, bg, spr])]

section Render
variable (c : Cart) (p : Ppu)

@[simp] theorem renderPart_dot : (renderPart c p).dot = p.dot := by rw [renderPart_frame]
@[simp] theorem renderPart_scanline : (renderPart c p).scanline = p.scanline := by rw [renderPart_frame]
@[simp] theorem renderPart_ctrl : (renderPart c p).ctrl = p.ctrl := by rw [renderPart_frame]
@[simp] theorem renderPart_vblank : (renderPart c p).vblank = p.vblank := by rw [renderPart_frame]
@[simp] theorem renderPart_nmiPrevious : (renderPart c p).nmiPrevious = p.nmiPrevious := by rw [renderPart_frame]
@[simp] theorem renderPart_nmiDelay : (renderPart c p).nmiDelay = p.nmiDelay := by rw [renderPart_frame]

end Render

/-! ## The vblank events -/

section Vblank
variable {p : Ppu} (d : Nat)

theorem vblankWork_set (h : p.standsAt 241 1) : vblankWork d p = p.setVblank d := by
  have here : p.scanline = 241 ∧ p.dot = 1 := h
  simp only [vblankWork, if_pos here]
  exact if_neg fun ⟨pre, _⟩ => by simp [Ppu.pre, Ppu.setVblank, Ppu.nmiChange, here.1] at pre

theorem vblankWork_clear (h : p.standsAt 261 1) : vblankWork d p = p.clearFlags d := by
  obtain ⟨line, dot⟩ := h
  simp only [vblankWork, if_neg (show ¬ (p.scanline = 241 ∧ p.dot = 1) by omega)]
  exact if_pos ⟨by simp [Ppu.pre, line], dot⟩

theorem vblankWork_other (h241 : ¬ p.standsAt 241 1) (h261 : ¬ p.standsAt 261 1) : vblankWork d p = p := by
  simp only [vblankWork, if_neg (show ¬ (p.scanline = 241 ∧ p.dot = 1) from h241)]
  exact if_neg fun ⟨pre, dot⟩ => h261 ⟨by simpa [Ppu.pre] using pre, dot⟩

end Vblank

/-! ## The fields of a tick -/

section Tick
variable (s : State)

@[simp] theorem tick_dot : (tick s).ppu.dot = s.ppu.countdown.advance.dot := by
  rw [tick_ppu, vblankWork_frame]
  exact renderPart_dot _ _

@[simp] theorem tick_scanline : (tick s).ppu.scanline = s.ppu.countdown.advance.scanline := by
  rw [tick_ppu, vblankWork_frame]
  exact renderPart_scanline _ _

@[simp] theorem tick_odd : (tick s).ppu.odd = s.ppu.countdown.advance.odd := by
  rw [tick_ppu, vblankWork_frame, renderPart_frame]

@[simp] theorem tick_frameCount : (tick s).ppu.frame = s.ppu.countdown.advance.frame := by
  rw [tick_ppu, vblankWork_frame, renderPart_frame]

@[simp] theorem tick_mask : (tick s).ppu.mask = s.ppu.mask := by
  rw [tick_ppu, vblankWork_frame, renderPart_frame, advance_frame]
  rfl

@[simp] theorem tick_ctrl : (tick s).ppu.ctrl = s.ppu.ctrl := by
  rw [tick_ppu, vblankWork_frame, renderPart_frame, advance_frame]
  rfl

@[simp] theorem tick_params : (tick s).params = s.params := rfl

/-- The countdown passes the NMI on (R420, R458). -/
theorem tick_nmiPending : (tick s).nmiPending = (s.nmiPending || s.ppu.fires) := rfl

theorem tick_standsAt (line dot : Nat) :
    (tick s).ppu.standsAt line dot ↔ (renderPart s.cart s.ppu.countdown.advance).standsAt line dot := by
  simp [Ppu.standsAt]

end Tick

/-! ## Where the PPU stands -/

/-- The last dot of a frame (R421). -/
def Ppu.AtLastDot (p : Ppu) : Prop :=
  p.scanline = 261 ∧ (p.dot = 340 ∨ (p.dot = 339 ∧ p.odd = true ∧ (p.mask.bg = true ∨ p.mask.spr = true)))

section Advance
variable {p : Ppu}

theorem advance_of_last (h : p.AtLastDot) : p.advance = p.nextFrame := by
  obtain ⟨line, dot | ⟨dot, odd, render⟩⟩ := h
  · rw [Ppu.advance, if_neg (by omega), if_pos (by omega), if_pos (by omega)]
  · rw [Ppu.advance, if_pos ⟨by simpa [Ppu.rendering] using render, odd, line, dot⟩]

theorem advance_in_line (dot : p.dot < 340) (h : ¬ p.AtLastDot) : p.advance = { p with dot := p.dot + 1 } := by
  have skip : ¬ (p.rendering ∧ p.odd = true ∧ p.scanline = 261 ∧ p.dot = 339) := fun ⟨render, odd, line, dot⟩ =>
    h ⟨line, .inr ⟨dot, odd, by simpa [Ppu.rendering] using render⟩⟩
  rw [Ppu.advance, if_neg skip, if_neg (by omega)]

theorem advance_to_line (dot : p.dot = 340) (line : p.scanline < 261) :
    p.advance = { p with dot := 0, scanline := p.scanline + 1 } := by
  rw [Ppu.advance, if_neg (by omega), if_pos (by omega), if_neg (by omega)]

end Advance

/-- One tick of a PPU in range: on from the last dot to the next frame, else to the next dot or line (R421). -/
theorem tick_moves (s : State) (dot : s.ppu.dot ≤ 340) (line : s.ppu.scanline ≤ 261) :
    (s.ppu.AtLastDot → (tick s).ppu.standsAt 0 0 ∧ (tick s).ppu.odd = !s.ppu.odd ∧ (tick s).ppu.frame = s.ppu.frame + 1) ∧
    (¬ s.ppu.AtLastDot → (tick s).ppu.odd = s.ppu.odd ∧ (tick s).ppu.frame = s.ppu.frame ∧
      (s.ppu.dot < 340 → (tick s).ppu.standsAt s.ppu.scanline (s.ppu.dot + 1)) ∧
      (s.ppu.dot = 340 → (tick s).ppu.standsAt (s.ppu.scanline + 1) 0)) := by
  have counted : s.ppu.countdown.AtLastDot ↔ s.ppu.AtLastDot := Iff.rfl
  simp only [Ppu.standsAt, tick_dot, tick_scanline, tick_odd, tick_frameCount]
  refine ⟨fun last => ?_, fun inside => ?_⟩
  · rw [advance_of_last (counted.2 last)]
    exact ⟨⟨rfl, rfl⟩, rfl, rfl⟩
  · by_cases h : s.ppu.dot < 340
    · rw [advance_in_line (p := s.ppu.countdown) h (mt counted.1 inside)]
      exact ⟨rfl, rfl, fun _ => ⟨rfl, rfl⟩, fun h' => absurd h (by omega)⟩
    · have notLast : s.ppu.scanline ≠ 261 := fun e => inside ⟨e, .inl (by omega)⟩
      rw [advance_to_line (p := s.ppu.countdown) (show s.ppu.dot = 340 by omega) (show s.ppu.scanline < 261 by omega)]
      exact ⟨rfl, rfl, fun h' => absurd h' h, fun _ => ⟨rfl, rfl⟩⟩

/-- The number of the dot where the PPU stands, counted from (0, 0). -/
def Ppu.position (p : Ppu) : Nat := 341 * p.scanline + p.dot

/-- The number of dots of the frame, if rendering stays as it is (R421). -/
def Ppu.frameLength (p : Ppu) : Nat :=
  if p.odd = true ∧ (p.mask.bg = true ∨ p.mask.spr = true) then 89341 else 89342

theorem frameLength_ge (p : Ppu) : 89341 ≤ p.frameLength := by
  unfold Ppu.frameLength
  split_ifs <;> decide

section Length
variable {p : Ppu} (dot : p.dot ≤ 340)
include dot

theorem scanline_le_of_position (h : p.position < p.frameLength) : p.scanline ≤ 261 := by
  unfold Ppu.position Ppu.frameLength at h
  split_ifs at h <;> omega

/-- The last dot of the frame is the one that makes up its length (R421). -/
theorem atLastDot_iff_position (h : p.position < p.frameLength) : p.AtLastDot ↔ p.position + 1 = p.frameLength := by
  unfold Ppu.AtLastDot
  unfold Ppu.position Ppu.frameLength at *
  split_ifs at * with short
  · simp only [short, and_true]
    omega
  · constructor
    · rintro ⟨line, last | ⟨-, odd, render⟩⟩
      · omega
      · exact absurd ⟨odd, render⟩ short
    · intro last
      exact ⟨by omega, .inl (by omega)⟩

end Length

/-- From `s` to `t` the PPU has moved `n` dots within one frame: the frame and its registers are the same. -/
structure MovesWithin (n : Nat) (s t : State) : Prop where
  position : t.ppu.position = s.ppu.position + n
  dot : t.ppu.dot ≤ 340
  odd : t.ppu.odd = s.ppu.odd
  frame : t.ppu.frame = s.ppu.frame
  mask : t.ppu.mask = s.ppu.mask

theorem MovesWithin.frameLength {n : Nat} {s t : State} (h : MovesWithin n s t) :
    t.ppu.frameLength = s.ppu.frameLength := by
  rw [Ppu.frameLength, Ppu.frameLength, h.odd, h.mask]

theorem runDots_succ (n : Nat) (s : State) : runDots (n + 1) s = tick (runDots n s) := runDots_add n 1 s

/-- A tick before the last dot of a frame. -/
theorem tick_movesWithin {s : State} (dot : s.ppu.dot ≤ 340) (h : s.ppu.position + 1 < s.ppu.frameLength) :
    MovesWithin 1 s (tick s) := by
  have inside : s.ppu.position < s.ppu.frameLength := by omega
  have notLast : ¬ s.ppu.AtLastDot := by
    rw [atLastDot_iff_position dot inside]
    omega
  obtain ⟨odd, frame, inLine, toLine⟩ := (tick_moves s dot (scanline_le_of_position dot inside)).2 notLast
  by_cases last : s.ppu.dot < 340
  · obtain ⟨line, next⟩ := inLine last
    exact ⟨by rw [Ppu.position, Ppu.position, line, next]; omega, by omega, odd, frame, tick_mask s⟩
  · obtain ⟨line, next⟩ := toLine (by omega)
    exact ⟨by rw [Ppu.position, Ppu.position, line, next]; omega, by omega, odd, frame, tick_mask s⟩

/-- Ticks that do not reach the end of the frame. -/
theorem runDots_movesWithin {s : State} (dot : s.ppu.dot ≤ 340) {n : Nat} (h : s.ppu.position + n < s.ppu.frameLength) :
    MovesWithin n s (runDots n s) := by
  induction n with
  | zero => exact ⟨rfl, dot, rfl, rfl, rfl⟩
  | succ n ih =>
    have before := ih (by omega)
    have next := tick_movesWithin before.dot (by rw [before.position, before.frameLength]; omega)
    rw [runDots_succ]
    exact ⟨by rw [next.position, before.position, Nat.add_assoc], next.dot, next.odd.trans before.odd,
      next.frame.trans before.frame, next.mask.trans before.mask⟩

/-- A whole frame from its first dot on. -/
theorem runDots_frameLength {s : State} (h : s.ppu.standsAt 0 0) :
    (runDots s.ppu.frameLength s).ppu.standsAt 0 0 ∧ (runDots s.ppu.frameLength s).ppu.frame = s.ppu.frame + 1 ∧
    (runDots s.ppu.frameLength s).ppu.odd = !s.ppu.odd ∧
    ∀ k, k < s.ppu.frameLength → (runDots k s).ppu.frame = s.ppu.frame := by
  obtain ⟨line, dot⟩ := h
  have origin : s.ppu.position = 0 := by rw [Ppu.position, line, dot]
  have within (k : Nat) (hk : k < s.ppu.frameLength) : MovesWithin k s (runDots k s) :=
    runDots_movesWithin (by omega) (by omega)
  obtain ⟨n, length⟩ : ∃ n, s.ppu.frameLength = n + 1 :=
    Nat.exists_eq_succ_of_ne_zero (by have := frameLength_ge s.ppu; omega)
  have before := within n (by omega)
  have inside : (runDots n s).ppu.position < (runDots n s).ppu.frameLength := by
    rw [before.position, before.frameLength]
    omega
  have last : (runDots n s).ppu.AtLastDot := by
    rw [atLastDot_iff_position before.dot inside, before.position, before.frameLength]
    omega
  obtain ⟨stands, odd, frame⟩ := (tick_moves _ before.dot (scanline_le_of_position before.dot inside)).1 last
  rw [length, runDots_succ]
  exact ⟨stands, by rw [frame, before.frame], by rw [odd, before.odd], fun k hk => (within k (by omega)).frame⟩

/-- Settles O31: one tick by its three cases, and a frame as its length in ticks. -/
theorem dotClock : Obligations.DotClock :=
  ⟨fun s dot line => tick_moves s dot line, fun _ => runDots_frameLength⟩

/-! ## The flags -/

/-- The pixel's part of a dot (R423, R448). -/
def pixelPart (p : Ppu) : Ppu := if p.pixelDot then renderFlags p else p

/-- The fetch's part of a dot (R423, R424). -/
def fetchPart (c : Cart) (p : Ppu) : Ppu := if p.renderLine ∧ p.fetchDot then fetchWork c p else p

theorem renderWork_eq (c : Cart) (p : Ppu) : renderWork c p = spriteWork c (scrollWork (fetchPart c (pixelPart p))) := rfl

theorem pixelPart_frame (p : Ppu) : pixelPart p = { p with spr0Hit := (pixelPart p).spr0Hit } := by
  unfold pixelPart
  split_ifs <;> rfl

theorem fetchPart_frame (c : Cart) (p : Ppu) : fetchPart c p = { p with bg := (fetchPart c p).bg } := by
  unfold fetchPart
  split_ifs
  · exact fetchWork_frame c p
  · rfl

/-- Rendering never clears the sprite-zero flag (R449). -/
theorem renderPart_spr0Hit (c : Cart) {p : Ppu} (h : p.spr0Hit = true) : (renderPart c p).spr0Hit = true := by
  have pixel : (pixelPart p).spr0Hit = true := by
    unfold pixelPart renderFlags
    split_ifs <;> simp [h]
  unfold renderPart
  split_ifs
  · rw [renderWork_eq, spriteWork_frame, scrollWork_frame, fetchPart_frame]
    exact pixel
  · exact h

/-- Rendering never clears the overflow flag (R440). -/
theorem renderPart_sprOverflow (c : Cart) {p : Ppu} (h : p.sprOverflow = true) :
    (renderPart c p).sprOverflow = true := by
  have kept (q : Ppu) (hq : q.sprOverflow = true) : (spriteWork c q).sprOverflow = true := by
    unfold spriteWork evaluateSprites
    split_ifs <;> simp [hq]
  unfold renderPart
  split_ifs
  · rw [renderWork_eq]
    refine kept _ ?_
    rw [scrollWork_frame, fetchPart_frame, pixelPart_frame]
    exact h
  · exact h

/-- Off line 261 dot 1 the vblank events keep the sprite flags (R455). -/
theorem vblankWork_sprites {d : Nat} {p : Ppu} (h : ¬ p.standsAt 261 1) :
    (vblankWork d p).spr0Hit = p.spr0Hit ∧ (vblankWork d p).sprOverflow = p.sprOverflow := by
  by_cases h241 : p.standsAt 241 1
  · rw [vblankWork_set d h241]
    exact ⟨rfl, rfl⟩
  · rw [vblankWork_other d h241 h]
    exact ⟨rfl, rfl⟩

/-- Settles O32: rendering keeps vblank and only sets the sprite flags; the rest is the two events. -/
theorem vblankFlag : Obligations.VblankFlag := by
  intro s
  have frame := advance_frame s.ppu.countdown
  dsimp only
  simp only [tick_standsAt]
  rw [tick_ppu]
  refine ⟨fun h => ?_, fun h => ?_, fun h241 h261 => ?_, fun h261 => ?_⟩
  · rw [vblankWork_set _ h]
    rfl
  · rw [vblankWork_clear _ h]
    exact ⟨rfl, rfl, rfl⟩
  · rw [vblankWork_other _ h241 h261, renderPart_vblank, frame]
    rfl
  · obtain ⟨hit, overflow⟩ := vblankWork_sprites (d := s.params.nmiDelayDots) h261
    rw [hit, overflow]
    exact ⟨fun h => renderPart_spr0Hit _ (by rw [frame]; exact h),
      fun h => renderPart_sprOverflow _ (by rw [frame]; exact h)⟩

/-! ## The vblank NMI -/

theorem not_standsAt_of_position {p : Ppu} {line dot : Nat} (h : p.position ≠ 341 * line + dot) : ¬ p.standsAt line dot := by
  rintro ⟨rfl, rfl⟩
  exact h rfl

/-- Away from the vblank events a tick keeps vblank and counts down (R420). -/
theorem tick_between {s : State} (h241 : ¬ (tick s).ppu.standsAt 241 1) (h261 : ¬ (tick s).ppu.standsAt 261 1) :
    (tick s).ppu.vblank = s.ppu.vblank ∧ (tick s).ppu.nmiDelay = s.ppu.nmiDelay - 1 := by
  rw [tick_standsAt] at h241 h261
  rw [tick_ppu, vblankWork_other _ h241 h261, renderPart_vblank, renderPart_nmiDelay, advance_frame]
  exact ⟨rfl, rfl⟩

/-- The tick that starts vblank starts the delay if the NMI condition rises with it (R455, R457). -/
theorem tick_starts {s : State} (h : (tick s).ppu.standsAt 241 1) (nmi : s.ppu.ctrl.nmiOutput = true)
    (previous : s.ppu.nmiPrevious = false) :
    (tick s).ppu.vblank = true ∧ (tick s).ppu.nmiDelay = s.params.nmiDelayDots := by
  rw [tick_standsAt] at h
  rw [tick_ppu, vblankWork_set _ h]
  refine ⟨rfl, ?_⟩
  rw [Ppu.setVblank, Ppu.nmiChange_delay]
  dsimp only
  rw [renderPart_ctrl, renderPart_nmiPrevious, advance_frame]
  simp [Ppu.countdown, nmi, previous]

/-- `k` dots after the first of vblank, the delay being at its start `d`: it has counted down, and passed nothing on. -/
structure CountsDown (d k : Nat) (s : State) : Prop where
  dot : s.ppu.dot ≤ 340
  position : s.ppu.position = 82182 + k
  ctrl : s.ppu.ctrl.nmiOutput = true
  vblank : s.ppu.vblank = true
  delay : s.ppu.nmiDelay = d - k
  pending : s.nmiPending = false

theorem CountsDown.tick {d k : Nat} {s : State} (h : CountsDown d k s) (lt : k + 1 < d) (le : d ≤ 6820) :
    CountsDown d (k + 1) (tick s) := by
  have length := frameLength_ge s.ppu
  have position := h.position
  have moves := tick_movesWithin h.dot (by omega)
  have next := moves.position
  obtain ⟨vblank, delay⟩ := tick_between (s := s) (not_standsAt_of_position (by omega))
    (not_standsAt_of_position (by omega))
  refine ⟨moves.dot, by omega, ?_, vblank.trans h.vblank, ?_, ?_⟩
  · rw [tick_ctrl]
    exact h.ctrl
  · rw [delay, h.delay]
    omega
  · have running := h.delay
    have one : s.ppu.nmiDelay ≠ 1 := by omega
    simp [tick_nmiPending, h.pending, Ppu.fires, one]

/-- The tick after the last dot of the delay passes the NMI on (R420, R458). -/
theorem CountsDown.fires {d k : Nat} {s : State} (h : CountsDown d k s) (last : k + 1 = d) :
    (Machine.tick s).nmiPending = true := by
  have one : s.ppu.nmiDelay = 1 := by rw [h.delay]; omega
  simp [tick_nmiPending, Ppu.fires, one, h.ctrl, h.vblank]

/-- The delay, from the tick that starts vblank on. -/
theorem runDots_countsDown {s : State} {d : Nat} (start : CountsDown d 0 (tick s)) (le : d ≤ 6820) {k : Nat}
    (lt : k < d) : CountsDown d k (runDots (k + 1) s) := by
  induction k with
  | zero => exact start
  | succ k ih =>
    rw [runDots_succ]
    exact (ih (by omega)).tick lt le

/-- With NMI disabled no tick sets the latch. -/
theorem runDots_nmiDisabled {s : State} (ctrl : s.ppu.ctrl.nmiOutput = false) (pending : s.nmiPending = false) (n : Nat) :
    (runDots n s).nmiPending = false := by
  induction n generalizing s with
  | zero => exact pending
  | succ n ih =>
    refine ih (s := tick s) (by rw [tick_ctrl]; exact ctrl) ?_
    simp [tick_nmiPending, Ppu.fires, ctrl, pending]

/-- Settles O33: the tick to line 241 dot 1 starts the countdown, which ends before line 261 dot 1. -/
theorem vblankNmi : Obligations.VblankNmi := by
  intro s inv stands vblank idle pending le
  refine ⟨fun nmi => ?_, fun disabled => runDots_nmiDisabled disabled pending⟩
  obtain ⟨line, dot⟩ := stands
  have previous : s.ppu.nmiPrevious = false := by rw [inv.ppu.nmiPrevious, vblank, Bool.and_false]
  have inside : ¬ s.ppu.AtLastDot := fun h => by have := h.1; omega
  have first : (tick s).ppu.standsAt 241 1 := by
    have next := ((tick_moves s (by omega) (by omega)).2 inside).2.2.1 (by omega)
    rwa [line, dot] at next
  obtain ⟨started, delay⟩ := tick_starts first nmi previous
  have start : CountsDown s.params.nmiDelayDots 0 (tick s) := by
    obtain ⟨line', dot'⟩ := first
    refine ⟨by omega, by rw [Ppu.position]; omega, by rw [tick_ctrl]; exact nmi, started, delay, ?_⟩
    simp [tick_nmiPending, Ppu.fires, pending, idle]
  obtain ⟨k, delayDots⟩ : ∃ k, s.params.nmiDelayDots = k + 1 :=
    Nat.exists_eq_succ_of_ne_zero (by have := inv.delay; omega)
  have last : CountsDown s.params.nmiDelayDots k (runDots (k + 1) s) := runDots_countsDown start le (by omega)
  refine ⟨delay, ?_, ?_⟩
  · rw [delayDots]
    exact last.pending
  · rw [runDots_succ, delayDots]
    exact last.fires delayDots.symm

/-! ## The pixel of a dot -/

theorem pixelDot_iff (p : Ppu) : p.pixelDot = true ↔ p.scanline < 240 ∧ 1 ≤ p.dot ∧ p.dot ≤ 256 := by
  simp [Ppu.pixelDot, Ppu.visible, and_assoc]

theorem dotPixel_visible {p : Ppu} (h : p.pixelDot = true) : ∃ colour,
    dotPixel p = some { x := p.dot - 1, y := p.scanline, colour := colour } ∧
    (p.mask.bg = false → p.mask.spr = false →
      colour = if p.mask.gray then p.pal.read 0 &&& 0x30 else p.pal.read 0) := by
  rw [dotPixel, if_pos h]
  by_cases render : p.rendering = true
  · rw [if_pos render]
    exact ⟨_, rfl, fun bg spr => absurd render (by simp [Ppu.rendering, bg, spr])⟩
  · rw [if_neg render]
    exact ⟨_, rfl, fun _ _ => rfl⟩

/-- Settles O37: the pixel is the dot's, and without rendering a tick is its clock and the vblank events. -/
theorem frameSinkPixels : Obligations.FrameSinkPixels := by
  intro s
  have frame := advance_frame s.ppu.countdown
  have mask : s.ppu.countdown.advance.mask = s.ppu.mask := by rw [frame]; rfl
  have pal : s.ppu.countdown.advance.pal = s.ppu.pal := by rw [frame]; rfl
  have out : (tick s).out =
      { s.out with pixels := s.out.pixels ++ (dotPixel s.ppu.countdown.advance).toList } := rfl
  dsimp only
  rw [tick_dot, tick_scanline, out]
  refine ⟨fun line lo hi => ?_, fun h => ?_, fun bg spr => ?_⟩
  · obtain ⟨colour, pixel, backdrop⟩ := dotPixel_visible ((pixelDot_iff _).2 ⟨line, lo, hi⟩)
    rw [mask, pal] at backdrop
    exact ⟨colour, by rw [pixel]; rfl, backdrop⟩
  · have none : dotPixel s.ppu.countdown.advance = none := if_neg (mt (pixelDot_iff _).1 h)
    rw [none, Option.toList_none, List.append_nil]
  · rw [tick_ppu, vblankWork_frame, renderPart_of_disabled (by rw [mask]; exact bg) (by rw [mask]; exact spr), frame]
    exact ⟨rfl, rfl, rfl, rfl⟩

end Sys2Proof.Machine
end

section
/-! Sprite evaluation (R440) as a list of OAM indices in rising order, and pixel composition (R446 to R449). -/

namespace Sys2Proof.Machine

/-! ## The sprites in range -/

section Sprites
variable (c : Cart) (p : Ppu)

theorem mem_spritesInRange {i : Nat} : i ∈ spritesInRange p ↔ i < 64 ∧ (p.oam.read (4 * i)).toNat ≤ p.scanline ∧
    p.scanline < (p.oam.read (4 * i)).toNat + (if p.ctrl.sprSize then 16 else 8) := by
  simp [spritesInRange, spriteInRange, oamByte, spriteHeight]

theorem spritesInRange_pairwise : (spritesInRange p).Pairwise (· < ·) := List.pairwise_lt_range.filter _

theorem spritesInRange_lt {j k : Nat} (lt : j < k) (hk : k < (spritesInRange p).length) :
    (spritesInRange p)[j] < (spritesInRange p)[k] :=
  List.pairwise_iff_getElem.1 (spritesInRange_pairwise p) j k (by omega) hk lt

/-- A filled slot is that of the sprite in its place (R440). -/
theorem evaluateSprites_slot {k : Nat} (h : k < 8) (hk : k < (spritesInRange p).length) :
    (evaluateSprites c p).sprites[k] = spriteSlot c p (spritesInRange p)[k] := by
  simp [evaluateSprites, hk]

theorem evaluateSprites_index {k : Nat} (h : k < 8) (hk : k < (spritesInRange p).length) :
    (evaluateSprites c p).sprites[k].index.toNat = (spritesInRange p)[k] := by
  have lt := ((mem_spritesInRange p).1 (List.getElem_mem hk)).1
  rw [evaluateSprites_slot c p h hk, spriteSlot, BitVec.toNat_ofNat, Nat.mod_eq_of_lt lt]

theorem evaluateSprites_count : (evaluateSprites c p).sprCount = min (spritesInRange p).length 8 := rfl

/-- The sprites in range without a slot are those after all eight that have one (R440). -/
theorem after_slots_iff {i : Nat} (hi : i ∈ spritesInRange p) :
    ((evaluateSprites c p).sprCount = 8 ∧ ∀ k (_ : k < 8), (evaluateSprites c p).sprites[k].index.toNat < i) ↔
      ∃ j, ∃ h : j < (spritesInRange p).length, 8 ≤ j ∧ (spritesInRange p)[j] = i := by
  rw [evaluateSprites_count]
  constructor
  · rintro ⟨full, after⟩
    obtain ⟨j, hj, rfl⟩ := List.getElem_of_mem hi
    refine ⟨j, hj, ?_, rfl⟩
    by_contra lt
    have := after j (by omega)
    rw [evaluateSprites_index c p _ hj] at this
    omega
  · rintro ⟨j, hj, le, rfl⟩
    refine ⟨by omega, fun k hk => ?_⟩
    rw [evaluateSprites_index c p hk (by omega)]
    exact spritesInRange_lt p (by omega) hj

end Sprites

/-- Settles O35: the slots hold the first eight of the sprites in range, which are listed in OAM order. -/
theorem spriteEvaluation : Obligations.SpriteEvaluation := by
  intro c p
  dsimp only
  have count := evaluateSprites_count c p
  refine ⟨by omega, fun k h hk => ?_, fun j k hj hk lt hc => ?_, fun i hi => ?_, ?_⟩
  · have filled : k < (spritesInRange p).length := by omega
    rw [evaluateSprites_index c p h filled]
    refine ⟨(mem_spritesInRange p).1 (List.getElem_mem filled), ?_⟩
    rw [evaluateSprites_slot c p h filled]
    exact ⟨rfl, rfl, rfl⟩
  · rw [evaluateSprites_index c p hj (by omega), evaluateSprites_index c p hk (by omega)]
    exact spritesInRange_lt p lt (by omega)
  · have mem := (mem_spritesInRange p).2 hi
    obtain ⟨j, hj, place⟩ := List.getElem_of_mem mem
    by_cases lt : j < 8
    · exact .inl ⟨j, lt, by omega, by rw [evaluateSprites_index c p lt hj, place]⟩
    · exact .inr ((after_slots_iff c p mem).2 ⟨j, hj, by omega, place⟩)
  · have flag : (evaluateSprites c p).sprOverflow = true ↔ p.sprOverflow = true ∨ 8 < (spritesInRange p).length := by
      simp [evaluateSprites]
    rw [flag]
    refine or_congr_right ⟨fun more => ?_, fun ⟨full, i, hi, after⟩ => ?_⟩
    · have mem := List.getElem_mem more
      obtain ⟨full, after⟩ := (after_slots_iff c p mem).2 ⟨8, more, le_rfl, rfl⟩
      exact ⟨full, _, (mem_spritesInRange p).1 mem, after⟩
    · obtain ⟨j, hj, le, -⟩ := (after_slots_iff c p ((mem_spritesInRange p).2 hi)).1 ⟨full, after⟩
      omega

/-! ## Composition -/

theorem opaquePixel_iff (c : BitVec 4) : opaquePixel c = true ↔ c.toNat % 4 ≠ 0 := by
  revert c
  decide

/-- A sprite's colour number lies in the upper half of the palette (R448). -/
theorem spriteColour_eq (c : BitVec 4) : c.setWidth 5 ||| 0x10 = BitVec.ofNat 5 (16 + c.toNat) := by
  revert c
  decide

/-- The winning sprite's pixel is opaque (R446). -/
theorem sprPixel_opaque {p : Ppu} {slot : SpriteSlot} {c : BitVec 4} (h : sprPixel p = some (slot, c)) :
    opaquePixel c = true := by
  unfold sprPixel at h
  split_ifs at h
  obtain ⟨k, -, hk⟩ := List.exists_of_findSome?_eq_some h
  split at hk
  · split_ifs at hk with opaq
    injection hk with hk
    injection hk with _ hc
    rwa [← hc]
  · exact nomatch hk

/-- Settles O36: the branches of the composition, with opacity and the upper half of the palette in integers. -/
theorem pixelComposition : Obligations.PixelComposition := by
  refine ⟨fun bg => ?_, fun bg sp slot => ?_, fun bg sp slot px => ⟨rfl, ?_⟩, fun p slot sp h => ?_⟩
  · simp only [composeColour, opaquePixel_iff, ite_not, BitVec.ofNat_toNat]
  · simp only [composeColour, opaquePixel_iff, spriteColour_eq, BitVec.ofNat_toNat]
  · simp [spriteZeroHit, opaquePixel_iff, and_assoc]
  · exact (opaquePixel_iff sp).1 (sprPixel_opaque h)

end Sys2Proof.Machine
end

section
/-! The background fetches (R424 to R430): the addresses in integers, what each fetch dot leaves in the pipeline, and the
tick that reaches one. -/

namespace Sys2Proof.Machine

/-! ## The addresses -/

/-- The address of the palette numbers (R426): the nametable, and the block of four by four tiles. -/
theorem attributeAddr_toNat (v : BitVec 15) : (attributeAddr v).toNat =
    0x23C0 + v.toNat / 1024 % 4 * 1024 + v.toNat / 128 % 8 * 8 + v.toNat / 4 % 8 := by
  have fields : attributeAddr v =
      2#2 ++ v.extractLsb' 10 2 ++ 15#4 ++ v.extractLsb' 7 3 ++ v.extractLsb' 2 3 := by
    apply BitVec.eq_of_getLsbD_eq
    intro i hi
    rw [BitVec.getLsbD_append, BitVec.getLsbD_append, BitVec.getLsbD_append, BitVec.getLsbD_append]
    unfold attributeAddr
    interval_cases i <;> simp
  rw [fields]
  simp only [toNat_append_eq_add, BitVec.extractLsb'_toNat, BitVec.toNat_ofNat, Nat.shiftRight_eq_div_pow]
  omega

/-- The quadrant's place in the byte of palette numbers (R426). -/
theorem attributeShift_eq (v : BitVec 15) : attributeShift v = v.toNat / 64 % 2 * 4 + v.toNat / 2 % 2 * 2 := by
  have y : ((v >>> 4) &&& 4).toNat = 2 ^ 2 * (v.toNat / 64 % 2) := by
    rw [and_two_pow_toNat _ 4 2 rfl, BitVec.toNat_ushiftRight, Nat.shiftRight_eq_div_pow, Nat.div_div_eq_div_mul,
      show 2 ^ 4 * 2 ^ 2 = 64 from rfl]
  have x : (v &&& 2).toNat = 2 ^ 1 * (v.toNat / 2 % 2) := and_two_pow_toNat v 2 1 rfl
  rw [attributeShift, BitVec.toNat_or, y, x, Nat.or_comm, or_two_pow_mul (by omega)]
  omega

/-- The palette number of a quadrant, shifted left by 2 (R426). -/
theorem quadrant_eq (b : Byte) (n : Nat) :
    (((b >>> n) &&& 3) <<< 2).setWidth 4 = BitVec.ofNat 4 (4 * (b.toNat / 2 ^ n % 4)) := by
  have low : ((b >>> n) &&& 3).toNat = b.toNat / 2 ^ n % 4 := by
    rw [and_two_pow_sub_one_toNat _ 3 2 rfl, BitVec.toNat_ushiftRight, Nat.shiftRight_eq_div_pow,
      show 2 ^ 2 = 4 from rfl]
  apply BitVec.eq_of_toNat_eq
  rw [BitVec.toNat_setWidth, BitVec.toNat_shiftLeft, low, Nat.shiftLeft_eq, BitVec.toNat_ofNat]
  omega

/-- The pattern address of row `row` of a tile (R112). -/
theorem patternAddr_toNat (table : Bool) (tile : Byte) {row : BitVec 14} (h : row.toNat < 16) :
    (patternAddr table tile row).toNat = (if table then 0x1000 else 0) + 16 * tile.toNat + row.toNat := by
  have := tile.isLt
  unfold patternAddr
  split_ifs <;> bv_omega

theorem fineY_toNat (v : BitVec 15) : (fineY v).toNat = v.toNat / 4096 := by
  have := v.isLt
  rw [fineY, BitVec.toNat_setWidth, BitVec.toNat_ushiftRight, Nat.shiftRight_eq_div_pow]
  omega

section Reads
variable (c : Cart) (p : Ppu)

theorem tableRead_pattern {a : BitVec 14} (h : a.toNat < 0x2000) : tableRead c p a = c.chr.read a.toNat := by
  rw [tableRead, if_pos (by omega)]

theorem tableRead_nametable {a : BitVec 14} (h : 0x2000 ≤ a.toNat) :
    tableRead c p a = p.ciram.read (mirrorIndex c.mirroring a.toNat) := by
  rw [tableRead, if_neg (by omega)]

/-! ## The fetch dots -/

theorem fetchWork_tiles (h : p.dot % 8 ≠ 0) : (fetchWork c p).bg.tiles = p.bg.tiles <<< 4 := by
  unfold fetchWork
  dsimp only
  split_ifs <;> rfl

/-- The stored tile fills the lower half of the buffer (R429). -/
theorem fetchWork_storing (h : p.dot % 8 = 0) :
    (fetchWork c p).bg.tiles / 4294967296 = (p.bg.tiles <<< 4) / 4294967296 := by
  have work : fetchWork c p = storeTile (shiftTiles p) := by
    simp [fetchWork, h]
  have tile (pack : BitVec 32) (t : BitVec 64) : (t ||| pack.setWidth 64) / 4294967296 = t / 4294967296 := by
    apply BitVec.eq_of_toNat_eq
    rw [BitVec.toNat_udiv, BitVec.toNat_udiv, BitVec.toNat_or, BitVec.toNat_setWidth_of_le (by decide),
      show BitVec.toNat (4294967296 : BitVec 64) = 2 ^ 32 from rfl, Nat.or_div_two_pow, Nat.div_eq_of_lt pack.isLt,
      Nat.or_zero]
  rw [work]
  exact tile _ _

theorem fetchWork_nt (h : p.dot % 8 = 1) :
    (fetchWork c p).bg.nt = p.ciram.read (mirrorIndex c.mirroring (0x2000 + p.v.toNat % 4096)) := by
  have work : fetchWork c p = fetchNT c (shiftTiles p) := if_pos h
  rw [work, ← nametableAddr_toNat]
  exact tableRead_nametable c _ (by rw [nametableAddr_toNat]; omega)

theorem fetchWork_palette (h : p.dot % 8 = 3) :
    (fetchWork c p).bg.attr = BitVec.ofNat 4 (4 * ((p.ciram.read (mirrorIndex c.mirroring
      (0x23C0 + p.v.toNat / 1024 % 4 * 1024 + p.v.toNat / 128 % 8 * 8 + p.v.toNat / 4 % 8))).toNat /
        2 ^ (p.v.toNat / 64 % 2 * 4 + p.v.toNat / 2 % 2 * 2) % 4)) := by
  have work : fetchWork c p = fetchAT c (shiftTiles p) := by
    simp [fetchWork, h]
  rw [work, ← attributeAddr_toNat, ← attributeShift_eq, ← quadrant_eq,
    ← tableRead_nametable c p (attributeAddr_range p.v).1]
  rfl

theorem fetchWork_lo (h : p.dot % 8 = 5) : (fetchWork c p).bg.lo =
    c.chr.read ((if p.ctrl.bgTable then 0x1000 else 0) + 16 * p.bg.nt.toNat + p.v.toNat / 4096) := by
  have row : (fineY p.v).toNat < 16 := by have := fineY_lt p.v; omega
  have work : fetchWork c p = fetchLo c (shiftTiles p) := by
    simp [fetchWork, h]
  rw [work, ← fineY_toNat, ← patternAddr_toNat _ _ row, ← tableRead_pattern c p (patternAddr_lt _ _ _ row)]
  rfl

theorem fetchWork_hi (h : p.dot % 8 = 7) : (fetchWork c p).bg.hi =
    c.chr.read ((if p.ctrl.bgTable then 0x1000 else 0) + 16 * p.bg.nt.toNat + p.v.toNat / 4096 + 8) := by
  have upper : (fineY p.v + 8).toNat = p.v.toNat / 4096 + 8 := by
    have := fineY_toNat p.v
    have := fineY_lt p.v
    bv_omega
  have row : (fineY p.v + 8).toNat < 16 := by have := p.v.isLt; omega
  have work : fetchWork c p = fetchHi c (shiftTiles p) := by
    simp [fetchWork, h]
  rw [work, Nat.add_assoc, ← upper, ← patternAddr_toNat _ _ row, ← tableRead_pattern c p (patternAddr_lt _ _ _ row)]
  rfl

end Reads

/-! ## The tick -/

theorem fetchWork_pixelPart (c : Cart) (p : Ppu) : (fetchWork c (pixelPart p)).bg = (fetchWork c p).bg := by
  rw [pixelPart_frame]
  unfold fetchWork
  dsimp only
  split_ifs <;> rfl

/-- With rendering enabled, a tick to a fetch dot of a render line leaves what the fetch leaves in the pipeline (R423). -/
theorem tick_bg {s : State} (render : s.ppu.countdown.advance.rendering = true)
    (line : s.ppu.countdown.advance.renderLine = true) (dot : s.ppu.countdown.advance.fetchDot = true) :
    (tick s).ppu.bg = (fetchWork s.cart s.ppu.countdown.advance).bg := by
  have fetches : (pixelPart s.ppu.countdown.advance).renderLine = true ∧
      (pixelPart s.ppu.countdown.advance).fetchDot = true := by
    rw [pixelPart_frame]
    exact ⟨line, dot⟩
  rw [tick_ppu, vblankWork_frame, renderPart, if_pos render, renderWork_eq, spriteWork_frame, scrollWork_frame, fetchPart,
    if_pos fetches]
  exact fetchWork_pixelPart _ _

/-- Settles O38: the fetch dots leave their fetch in the pipeline, and the tick keeps it. -/
theorem tileFetches : Obligations.TileFetches := by
  intro s
  dsimp only
  intro render line dot
  have ciram : s.ppu.ciram = s.ppu.countdown.advance.ciram := by rw [advance_frame]; rfl
  rw [ciram, tick_bg (by simpa [Ppu.rendering] using render) (by simpa [Ppu.renderLine, Ppu.visible, Ppu.pre] using line)
    (by simpa [Ppu.fetchDot] using dot)]
  exact ⟨fetchWork_tiles _ _, fetchWork_storing _ _, fetchWork_nt _ _, fetchWork_palette _ _, fetchWork_lo _ _,
    fetchWork_hi _ _⟩

end Sys2Proof.Machine
end

section

/-! The CPU steps that run no instruction (60_exceptions.md, R506 to R510, R515): taking an NMI or an IRQ, and one cycle of
a DMA stall. -/

namespace Sys2Proof.Machine

/-- A CPU step that counted `c` cycles is followed by `3 * c` dots (R520). -/
theorem withDots_next {start c : Nat} {t : State} (count : t.cycles = start + c) :
    withDots start (.next t) = .next (runDots (3 * c) t) := by
  rw [withDots, count, Nat.add_sub_cancel_left]

/-- On a console with the invariant an interrupt through a vector in PRG-ROM is taken: the entry with bit 4 of the pushed P
clear, in seven cycles (R509), and 21 dots after it (R520). -/
theorem withDots_takeInterrupt {s : State} (inv : s.Inv) {vector : Word} (first : 0x8000 ≤ vector.toNat)
    (second : 0x8000 ≤ (vector + 1).toNat) :
    ∃ lo hi, peek s vector = some lo ∧ peek s (vector + 1) = some hi ∧
      withDots s.cycles (takeInterrupt vector s).toOutcome = .next (runDots 21 { interruptFrame s.pc false s with
        pc := BitVec.ofNat 16 (256 * hi.toNat + lo.toNat), cycles := s.cycles + 7 }) := by
  obtain ⟨lo, hi, hlo, hhi, entry⟩ := enterInterrupt_prg inv false first second
  refine ⟨lo, hi, hlo, hhi, ?_⟩
  rw [takeInterrupt, entry, Res.andThen_ok, Res.toOutcome_ok]
  exact withDots_next (c := 7) rfl

/-! ## The statements -/

/-- Settles O14: the interrupt through 0xFFFA, from the state with the IRQ input used up and the latch cleared. -/
theorem nmiEntry : Obligations.NmiEntry := by
  intro s inv stall nmi
  have taken : s.dropInput.clearNmi.Inv :=
    ((dropInput_registersOnly s).keeps.trans (clearNmi_registersOnly _).keeps).inv inv
  rw [step_eq_withDots, cpuStep_nmi stall nmi]
  exact withDots_takeInterrupt taken (vector := 0xFFFA) (by decide) (by decide)

/-- Settles O15: the interrupt through 0xFFFE, from the state with the IRQ input used up. -/
theorem irqEntry : Obligations.IrqEntry := by
  intro s inv stall nmi line unmasked
  have taken : s.dropInput.Inv := (dropInput_registersOnly s).keeps.inv inv
  rw [step_eq_withDots, cpuStep_irq stall nmi line unmasked]
  exact withDots_takeInterrupt taken (vector := 0xFFFE) (by decide) (by decide)

/-- Settles O13: the stall cycle, from the state with the IRQ input used up, and three dots. -/
theorem stallStep : Obligations.StallStep := by
  intro s stall
  rw [step_eq_withDots, cpuStep_stall stall]
  exact withDots_next (c := 1) rfl

end Sys2Proof.Machine
end

section
/-! What reset leaves (R550 to R554) and how many cycles a step counts (R570). -/

namespace Sys2Proof.Machine

/-! ## The cycles of an instruction (R45, R165) -/

section Cycles
variable {s t : State}

theorem busRead_cycles {a : Word} {v : Byte} (h : busRead a s = .ok v t) : t.cycles = s.cycles := by
  rw [busRead_frame h]

/-- A bus write counts no cycle: an OAM DMA adds to the stall only (R417). -/
theorem busWrite_cycles {a : Word} {v : Byte} (h : busWrite a v s = .ok () t) : t.cycles = s.cycles := by
  rw [busWrite_frame h]

theorem busRead16_cycles {a w : Word} (h : busRead16 a s = .ok w t) : t.cycles = s.cycles := by
  obtain ⟨_, _, _, hlo, hhi, -⟩ := busRead16_eq_ok h
  exact (busRead_cycles hhi).trans (busRead_cycles hlo)

theorem busReadPtrWrap_cycles {a w : Word} (h : busReadPtrWrap a s = .ok w t) : t.cycles = s.cycles := by
  obtain ⟨_, _, _, hlo, hhi, -⟩ := busReadPtrWrap_eq_ok h
  exact (busRead_cycles hhi).trans (busRead_cycles hlo)

theorem enterInterrupt_cycles {brk : Bool} {vector : Word} (h : enterInterrupt brk vector s = .ok () t) :
    t.cycles = s.cycles := by
  obtain ⟨_, u, hr, rfl⟩ := enterInterrupt_eq_ok h
  rw [State.setPc_cycles, busRead16_cycles hr]
  rfl

theorem ImpliedOp.cycles {f : State → State} (op : ImpliedOp f) (s : State) : (f s).cycles = s.cycles := by
  cases op <;> rfl

theorem ReadOp.cycles {f : Byte → State → State} (op : ReadOp f) (v : Byte) (s : State) :
    (f v s).cycles = s.cycles := by
  cases op <;> rfl

theorem ModifyOp.cycles {f : Byte → State → Byte × State} (op : ModifyOp f) (v : Byte) (s : State) :
    (f v s).2.cycles = s.cycles := by
  cases op <;> rfl

theorem AfterOp.cycles {f : Byte → State → State} (op : AfterOp f) (v : Byte) (s : State) :
    (f v s).cycles = s.cycles := by
  cases op <;> rfl

theorem HighOp.cycles {f : Byte → State → Byte × State} (op : HighOp f) (v : Byte) (s : State) :
    (f v s).2.cycles = s.cycles := by
  cases op <;> rfl

theorem frameCycles_bounds (c x : Nat) (e : EA) : c ≤ frameCycles c x e ∧ frameCycles c x e ≤ c + x := by
  unfold frameCycles
  split_ifs <;> omega

/-- From `s` to `t` between 2 and 8 cycles are counted, the range of the opcode table with its extra cycles (R159). -/
def CountsInstruction (s t : State) : Prop := s.cycles + 2 ≤ t.cycles ∧ t.cycles ≤ s.cycles + 8

/-- All the cycles of an instruction but a branch's are its frame's. -/
theorem CountsInstruction.of_eq {c : Nat} (bounds : 2 ≤ c ∧ c ≤ 8) (h : t.cycles = s.cycles + c) :
    CountsInstruction s t := by
  unfold CountsInstruction
  omega

/-- A branch counts its two cycles, and one or two more when it is taken (R270). -/
theorem branchInstr_counts {cond : Bool} {off : Int} (h : branchInstr 2 2 cond off s = .next t) :
    CountsInstruction s t := by
  unfold branchInstr at h
  dsimp only at h
  split_ifs at h with taken page <;> injection h with h <;> subst h
  · exact .of_eq (c := 3) (by decide) rfl
  · exact .of_eq (c := 4) (by decide) rfl
  · exact .of_eq (c := 2) (by decide) rfl

/-- Every frame counts the cycles of its row: its bus accesses and its handler count none. -/
theorem ExecForm.counts {f : State → Outcome} (form : ExecForm f) (h : f s = .next t) : CountsInstruction s t := by
  induction form with
  | implied n c bounds op =>
    injection h with h
    subst h
    exact .of_eq bounds (op.cycles _)
  | imm n c b bounds op =>
    injection h with h
    subst h
    exact .of_eq bounds (op.cycles b _)
  | acc n c bounds op =>
    injection h with h
    subst h
    exact .of_eq bounds (op.cycles s.a _)
  | read n c x m bounds op =>
    obtain ⟨v, u, hr, rfl⟩ := readInstr_eq_next h
    have frame := frameCycles_bounds c x (resolve m s)
    exact .of_eq (by omega) ((op.cycles v u).trans (busRead_cycles hr))
  | store n c m bounds _ => exact .of_eq bounds (busWrite_cycles (storeInstr_eq_next h))
  | rmw n c m bounds modify after =>
    obtain ⟨v, u, w, hr, hw, rfl⟩ := rmwInstr_eq_next h
    exact .of_eq bounds (calc
      _ = w.cycles := after.cycles _ w
      _ = u.cycles := (busWrite_cycles hw).trans (modify.cycles v u)
      _ = s.cycles + c := busRead_cycles hr)
  | high n c m bounds op =>
    exact .of_eq bounds ((busWrite_cycles (Res.toOutcome_eq_next h)).trans (op.cycles _ _))
  | branch cond off => exact branchInstr_counts h
  | jmp addr =>
    injection h with h
    subst h
    exact .of_eq (c := 3) (by decide) rfl
  | jmpInd addr =>
    obtain ⟨target, u, hr, h⟩ := Res.andThen_eq_ok (Res.toOutcome_eq_next h)
    injection h with _ h
    subst h
    exact .of_eq (c := 5) (by decide) (congrArg (· + 5) (busReadPtrWrap_cycles hr))
  | jsr addr =>
    injection h with h
    subst h
    exact .of_eq (c := 6) (by decide) rfl
  | brk => exact .of_eq (c := 7) (by decide) (enterInterrupt_cycles (Res.toOutcome_eq_next h))
  | jam => exact nomatch h
  | unstable op _ _ ih => exact ih (unstableInstr_eq_next h)

/-! ## The cycles of a step (R508, R515, R570) -/

theorem operandByte_cycles {op b : Byte} {a : Word} (h : operandByte op a s = .ok b t) : t.cycles = s.cycles := by
  obtain hr | ⟨-, -, rfl⟩ := operandByte_eq_ok h
  · exact busRead_cycles hr
  · rfl

/-- The fetch itself counts no cycle: the frame of the instruction does (R165). -/
theorem fetch_cycles {i : Instr} (h : fetch s = .ok i t) : t.cycles = s.cycles := by
  obtain ⟨op, u, hop, h⟩ := Res.andThen_eq_ok h
  rw [← busRead_cycles hop]
  split at h
  · rw [fetchedInstr_eq_ok h]
  obtain ⟨b1, v, hb1, h⟩ := Res.andThen_eq_ok h
  rw [← operandByte_cycles hb1]
  split at h
  · rw [fetchedInstr_eq_ok h]
  obtain ⟨b2, w, hb2, h⟩ := Res.andThen_eq_ok h
  rw [← busRead_cycles hb2, fetchedInstr_eq_ok h]

theorem instrStep_counts (h : instrStep s = .next t) : CountsInstruction s t := by
  unfold instrStep at h
  split at h
  · rename_i i u hf
    have counts := (exec_form i).counts h
    rwa [CountsInstruction, fetch_cycles hf] at counts
  · exact nomatch h

/-- Taking an interrupt counts seven cycles (R509). -/
theorem takeInterrupt_cycles {vector : Word} (h : (takeInterrupt vector s).toOutcome = .next t) :
    t.cycles = s.cycles + 7 := by
  obtain ⟨_, u, hu, h⟩ := Res.andThen_eq_ok (Res.toOutcome_eq_next h)
  injection h with _ h
  subst h
  exact congrArg (· + 7) (enterInterrupt_cycles hu)

/-- A CPU step counts one cycle of a stall, seven of an interrupt, or an instruction's. -/
theorem cpuStep_cycles (h : cpuStep s = .next t) :
    t.cycles = s.cycles + 1 ∨ t.cycles = s.cycles + 7 ∨ CountsInstruction s t := by
  unfold cpuStep at h
  split_ifs at h with stall nmi irq
  · injection h with h
    subst h
    exact .inl rfl
  · exact .inr (.inl (takeInterrupt_cycles (s := s.dropInput.clearNmi) h))
  · exact .inr (.inl (takeInterrupt_cycles (s := s.dropInput) h))
  · exact .inr (.inr (instrStep_counts (s := s.dropInput) h))

end Cycles

/-! ## The state construction leaves (R550) -/

/-- From 0xC000 on a cartridge with a bank shows a byte of its PRG-ROM (R99, R100). -/
theorem peek_of_high {s : State} (banks : 1 ≤ s.cart.prgBanks) {a : Word} (lo : 0xC000 ≤ a.toNat) :
    peek s a = some (s.cart.prgRom.read (prgOffset s a)) := by
  rw [peek, if_neg (by omega), if_neg (by omega), if_neg (by omega), if_pos (prgOffset_lt_of_high banks lo)]

/-- A construction that gives a state gives the reset state, with PC the word at 0xFFFC. -/
theorem construct_eq_setPc {c : CartValue} {o : PowerOn} {params : Params} {irq : List Bool} {t : State}
    (h : construct c o params irq = .next t) : ∃ m lo hi,
      peek (beforeVector (c.insert m o.chrRam) o params irq) 0xFFFC = some lo ∧
      peek (beforeVector (c.insert m o.chrRam) o params irq) 0xFFFD = some hi ∧
      t = (beforeVector (c.insert m o.chrRam) o params irq).setPc (BitVec.ofNat 16 (256 * hi.toNat + lo.toNat)) := by
  obtain ⟨m, w, u, hm, hr, rfl⟩ := construct_eq_next h
  obtain ⟨-, banks, -⟩ := CartValue.mapper?_eq_some hm
  have vector {a : Word} (high : 0xC000 ≤ a.toNat) :=
    peek_of_high (s := beforeVector (c.insert m o.chrRam) o params irq) banks high
  have hlo := vector (a := 0xFFFC) (by decide)
  have hhi := vector (a := 0xFFFD) (by decide)
  rw [busRead16_of_peek hlo hhi] at hr
  injection hr with hw hu
  exact ⟨m, _, _, hlo, hhi, by rw [← hw, ← hu]⟩

/-! ## The statements -/

/-- Settles O16: one cycle of a stall, seven of an interrupt, or two to eight of an instruction; the dots count none. -/
theorem cyclesPerStep : Obligations.CyclesPerStep := by
  intro s t h
  obtain ⟨u, hu, rfl⟩ := consoleStep_eq_next h
  rw [runDots_cycles]
  obtain stall | interrupt | ⟨atLeast, atMost⟩ := cpuStep_cycles hu <;> omega

/-- Settles O1: the fields of the state before the vector is read, and the vector's two bytes. -/
theorem cpuAfterConstruction : Obligations.CpuAfterConstruction := by
  intro c o params irq t h
  obtain ⟨m, lo, hi, hlo, hhi, rfl⟩ := construct_eq_setPc h
  exact ⟨rfl, rfl, rfl, rfl, unpack_eq_statusOf 0x24, rfl, ⟨lo, hi, hlo, hhi, rfl⟩, rfl, rfl, rfl⟩

/-- Settles O2: reading the vector changes PC only, so every other field is that of the state before it. -/
theorem restAfterConstruction : Obligations.RestAfterConstruction := by
  intro c o params irq t h
  obtain ⟨m, lo, hi, -, -, rfl⟩ := construct_eq_setPc h
  exact ⟨rfl, rfl, rfl, rfl, rfl, rfl, rfl, rfl, rfl, rfl, rfl, rfl, ⟨rfl, rfl⟩, rfl, rfl, rfl, rfl, rfl, rfl, rfl,
    rfl, rfl, rfl, rfl, rfl, rfl, rfl, rfl⟩

/-- Settles O4: the reset state is the one constructed from an empty cartridge and empty memories. -/
theorem invariantAtReset : Obligations.InvariantAtReset :=
  have built : construct CartValue.atReset PowerOn.atReset Params.atReset [] = .next State.reset := rfl
  invariantAfterConstruction _ _ _ _ _ built rfl rfl rfl rfl rfl rfl rfl rfl nofun (by decide)

end Sys2Proof.Machine
end
